-- ==== Sys2Proof/Word.lean ====
section
/-! DEFINITION. The word types of the rchip16 core (spec 00 R7 to R9, R14). -/

namespace Sys2Proof

/-- A 16-bit register or data word (00 R7: XLEN). -/
abbrev Word := BitVec 16

/-- One byte of memory. -/
abbrev Byte := BitVec 8

/-- A 4-bit instruction field: a constant n, a shift amount, an SNG field (30 R107, R108, R113). -/
abbrev Nibble := BitVec 4

/-- The 32-bit instruction word (30 R100). -/
abbrev InstrWord := BitVec 32

/-- The index of a general register r0 to r15. A register field has 4 bits, so no index is out of
range (00 R14). -/
abbrev Reg := Fin 16

end Sys2Proof
end

