-- ==== Sys2Proof/Config.lean ====
section
/-! DEFINITION. The parameters of the rchip16 core (spec 00 R7). -/

namespace Sys2Proof

/-- MEM_SIZE: 65536 bytes (00 R7, 10 R46). -/
def Config.memSize : Nat := 65536

/-- PALETTE_SLOTS: 16 (00 R7, 46 R308). -/
def Config.paletteSlots : Nat := 16

/-- TONE_CHANNEL: 0 (00 R7, 46 R311). -/
def Config.toneChannel : Nat := 0

/-- RNG_STATE, a type the spec leaves as a parameter (00 R7, 92 D30).
DESIGN CHOICE, safe: the natural numbers, which can number the states of any generator with
countably many states; log 3. -/
abbrev Config.RngState := Nat

/-- RNG_SEED, a parameter of the spec (00 R7, 10 R45): a constant without a body, so that no proof
can see its value; log 4. -/
opaque Config.rngSeed : Config.RngState

/-- RNG_NEXT, a parameter of the spec (00 R7): a function without a body, so that a claim about RND
holds for every generator. Its value's type is the limit 46 R318 puts on it, `0 <= v <= bound`;
log 4. -/
opaque Config.rngNext :
  Config.RngState → (bound : Word) → Fin (bound.toNat + 1) × Config.RngState

end Sys2Proof
end

