-- ==== Sys2Proof/Syntax.lean ====
section
/-! DEFINITION. The instructions of the rchip16 core as syntax: one constructor per row of
spec/opcode_table.json (30 R117). -/

namespace Sys2Proof

/-- The sixteen conditions of JX and CX, in the order of their codes 0x0 to 0xF (44 R250). -/
inductive Cond where
  | z | nz | n | nn | p | o | no | a | ae | b | be | g | ge | l | le | al
deriving DecidableEq, Repr

/-- The twelve operand formats (30 R103 to R114). -/
inductive Format where
  | n | a | ri | ci | rn | k | r | rr | rrr | rra | s | f
deriving DecidableEq, Repr

/-- The 85 operations. Operand names are the spec's: x, y, z the register fields X, Y, Z; imm and
addr the 16-bit field; n the 4-bit constant; for SNG attack, decay, volume, type, sustain, release.
FLIP0 to FLIP3 have no operand: their flip bits are part of the encoding (30 R114). -/
inductive Instr where
  -- Peripheral and miscellaneous (46 R300 to R321).
  | nop
  | cls
  | vblnk
  | bgc (n : Nibble)
  | spr (imm : Word)
  | drw0 (x y : Reg) (imm : Word)
  | drw1 (x y z : Reg)
  | rnd (x : Reg) (imm : Word)
  | flip0
  | flip1
  | flip2
  | flip3
  | snd0
  | snd1 (imm : Word)
  | snd2 (imm : Word)
  | snd3 (imm : Word)
  | snp (x : Reg) (imm : Word)
  | sng (a d v t sus rel : Nibble)
  -- Control transfer (44 R252 to R260).
  | jmp0 (imm : Word)
  | jmc (imm : Word)
  | jx (c : Cond) (addr : Word)
  | jme (x y : Reg) (imm : Word)
  | call0 (imm : Word)
  | ret
  | jmp1 (x : Reg)
  | cx (c : Cond) (addr : Word)
  | call1 (x : Reg)
  -- Data movement (40 R140 to R146).
  | ldi0 (x : Reg) (imm : Word)
  | ldi1 (x : Reg) (imm : Word)
  | ldm0 (x : Reg) (imm : Word)
  | ldm1 (x y : Reg)
  | mov (x y : Reg)
  | stm0 (x : Reg) (imm : Word)
  | stm1 (x y : Reg)
  -- Addition, subtraction, compare (41 R163 to R170).
  | addi (x : Reg) (imm : Word)
  | add0 (x y : Reg)
  | add1 (x y z : Reg)
  | subi (x : Reg) (imm : Word)
  | sub0 (x y : Reg)
  | sub1 (x y z : Reg)
  | cmpi (x : Reg) (imm : Word)
  | cmp (x y : Reg)
  -- Logic (42 R201 to R211).
  | andi (x : Reg) (imm : Word)
  | and0 (x y : Reg)
  | and1 (x y z : Reg)
  | tsti (x : Reg) (imm : Word)
  | tst (x y : Reg)
  | ori (x : Reg) (imm : Word)
  | or0 (x y : Reg)
  | or1 (x y z : Reg)
  | xori (x : Reg) (imm : Word)
  | xor0 (x y : Reg)
  | xor1 (x y z : Reg)
  -- Multiplication and division (41 R172 to R184).
  | muli (x : Reg) (imm : Word)
  | mul0 (x y : Reg)
  | mul1 (x y z : Reg)
  | divi (x : Reg) (imm : Word)
  | div0 (x y : Reg)
  | div1 (x y z : Reg)
  | modi (x : Reg) (imm : Word)
  | mod0 (x y : Reg)
  | mod1 (x y z : Reg)
  | remi (x : Reg) (imm : Word)
  | rem0 (x y : Reg)
  | rem1 (x y z : Reg)
  -- Shifts (43 R231 to R236).
  | shli (x : Reg) (n : Nibble)
  | shri (x : Reg) (n : Nibble)
  | sari (x : Reg) (n : Nibble)
  | shl0 (x y : Reg)
  | shr0 (x y : Reg)
  | sar0 (x y : Reg)
  -- Stack (45 R280 to R285).
  | push (x : Reg)
  | pop (x : Reg)
  | pushall
  | popall
  | pushf
  | popf
  -- Palette (46 R309, R310).
  | pal0 (imm : Word)
  | pal1 (x : Reg)
  -- NOT and NEG (42 R212 to R217).
  | noti (x : Reg) (imm : Word)
  | not0 (x : Reg)
  | not1 (x y : Reg)
  | negi (x : Reg) (imm : Word)
  | neg0 (x : Reg)
  | neg1 (x y : Reg)
deriving DecidableEq, Repr

end Sys2Proof
end

