-- ==== Sys2Proof/WellFormed.lean ====
section
/-! DEFINITION. Which instructions are well formed: all of them (DEDUCED, safe; log 10).
A register index cannot be out of range (00 R14), an immediate and a constant fill their fields
(30 R116), every condition code is defined (44 R251), and "No bit pattern of an assigned opcode is
reserved, illegal or a hint" (30 R115). The field widths are in the types of Instr, so there is no
check to fail; the words that are no encoder's output are told by `canonicalWord` in Decode.lean. -/

namespace Sys2Proof

/-- Every term of `Instr` is well formed. One arm per constructor, so that a new instruction must
say what it checks. -/
def Instr.wellFormed : Instr → Bool
  | .nop => true
  | .cls => true
  | .vblnk => true
  | .bgc _ => true
  | .spr _ => true
  | .drw0 _ _ _ => true
  | .drw1 _ _ _ => true
  | .rnd _ _ => true
  | .flip0 => true
  | .flip1 => true
  | .flip2 => true
  | .flip3 => true
  | .snd0 => true
  | .snd1 _ => true
  | .snd2 _ => true
  | .snd3 _ => true
  | .snp _ _ => true
  | .sng _ _ _ _ _ _ => true
  | .jmp0 _ => true
  | .jmc _ => true
  | .jx _ _ => true
  | .jme _ _ _ => true
  | .call0 _ => true
  | .ret => true
  | .jmp1 _ => true
  | .cx _ _ => true
  | .call1 _ => true
  | .ldi0 _ _ => true
  | .ldi1 _ _ => true
  | .ldm0 _ _ => true
  | .ldm1 _ _ => true
  | .mov _ _ => true
  | .stm0 _ _ => true
  | .stm1 _ _ => true
  | .addi _ _ => true
  | .add0 _ _ => true
  | .add1 _ _ _ => true
  | .subi _ _ => true
  | .sub0 _ _ => true
  | .sub1 _ _ _ => true
  | .cmpi _ _ => true
  | .cmp _ _ => true
  | .andi _ _ => true
  | .and0 _ _ => true
  | .and1 _ _ _ => true
  | .tsti _ _ => true
  | .tst _ _ => true
  | .ori _ _ => true
  | .or0 _ _ => true
  | .or1 _ _ _ => true
  | .xori _ _ => true
  | .xor0 _ _ => true
  | .xor1 _ _ _ => true
  | .muli _ _ => true
  | .mul0 _ _ => true
  | .mul1 _ _ _ => true
  | .divi _ _ => true
  | .div0 _ _ => true
  | .div1 _ _ _ => true
  | .modi _ _ => true
  | .mod0 _ _ => true
  | .mod1 _ _ _ => true
  | .remi _ _ => true
  | .rem0 _ _ => true
  | .rem1 _ _ _ => true
  | .shli _ _ => true
  | .shri _ _ => true
  | .sari _ _ => true
  | .shl0 _ _ => true
  | .shr0 _ _ => true
  | .sar0 _ _ => true
  | .push _ => true
  | .pop _ => true
  | .pushall => true
  | .popall => true
  | .pushf => true
  | .popf => true
  | .pal0 _ => true
  | .pal1 _ => true
  | .noti _ _ => true
  | .not0 _ => true
  | .not1 _ _ => true
  | .negi _ _ => true
  | .neg0 _ => true
  | .neg1 _ _ => true

end Sys2Proof
end

