-- ==== Sys2Proof/Decode.lean ====
section
/-! DEFINITION. Decoding and encoding the 32-bit instruction word (spec 30 R100 to R119). -/

namespace Sys2Proof

/-- Why a word is not decoded (30 R101). -/
inductive DecodeError where
  /-- The top byte b is unassigned (30 R118, 60 R403). Safe: the spec names this fault. -/
  | unknownOpcode (b : Byte)
deriving DecidableEq, Repr

/-- The opcode byte, w[31:24] (30 R100, R102). -/
def opcodeField (w : InstrWord) : Byte := w.extractLsb' 24 8

/-- The 4-bit field whose lowest bit is bit lo. -/
def nibField (w : InstrWord) (lo : Nat) : Nibble := w.extractLsb' lo 4

/-- The register field whose lowest bit is bit lo; it indexes r0 to r15 directly (30 R116). -/
def regField (w : InstrWord) (lo : Nat) : Reg := (nibField w lo).toFin

/-- imm16 = w[15:0] (30 R116). -/
def immField (w : InstrWord) : Word := w.extractLsb' 0 16

/-- The condition a 4-bit code selects; every code selects one (44 R250, R251). -/
def Cond.ofCode (c : Nibble) : Cond :=
  match c.toNat with
  | 0 => .z
  | 1 => .nz
  | 2 => .n
  | 3 => .nn
  | 4 => .p
  | 5 => .o
  | 6 => .no
  | 7 => .a
  | 8 => .ae
  | 9 => .b
  | 10 => .be
  | 11 => .g
  | 12 => .ge
  | 13 => .l
  | 14 => .le
  | _ => .al

/-- The 4-bit code of a condition (44 R250). -/
def Cond.code : Cond → Nibble
  | .z => 0
  | .nz => 1
  | .n => 2
  | .nn => 3
  | .p => 4
  | .o => 5
  | .no => 6
  | .a => 7
  | .ae => 8
  | .b => 9
  | .be => 10
  | .g => 11
  | .ge => 12
  | .l => 13
  | .le => 14
  | .al => 15

/-- The operation of opcode 0x08 that w[1:0] selects: FLIPn has n = 2H + V (30 R114). -/
def decodeFlip (n : BitVec 2) : Instr :=
  match n.toNat with
  | 0 => .flip0
  | 1 => .flip1
  | 2 => .flip2
  | _ => .flip3

/-- The operation of an opcode byte with its fields taken from the word by its format: the opcode
map of 30 R117 over the formats of 30 R103 to R114. None for an unassigned byte (30 R118). -/
def operationOf (op : Byte) (w : InstrWord) : Option Instr :=
  match op.toNat with
  | 0x00 => some .nop
  | 0x01 => some .cls
  | 0x02 => some .vblnk
  | 0x03 => some (.bgc (nibField w 0))
  | 0x04 => some (.spr (immField w))
  | 0x05 => some (.drw0 (regField w 16) (regField w 20) (immField w))
  | 0x06 => some (.drw1 (regField w 0) (regField w 12) (regField w 16))
  | 0x07 => some (.rnd (regField w 16) (immField w))
  | 0x08 => some (decodeFlip (w.extractLsb' 0 2))
  | 0x09 => some .snd0
  | 0x0A => some (.snd1 (immField w))
  | 0x0B => some (.snd2 (immField w))
  | 0x0C => some (.snd3 (immField w))
  | 0x0D => some (.snp (regField w 16) (immField w))
  | 0x0E => some (.sng (nibField w 20) (nibField w 16) (nibField w 12) (nibField w 8) (nibField w 4) (nibField w 0))
  | 0x10 => some (.jmp0 (immField w))
  | 0x11 => some (.jmc (immField w))
  | 0x12 => some (.jx (Cond.ofCode (nibField w 16)) (immField w))
  | 0x13 => some (.jme (regField w 16) (regField w 20) (immField w))
  | 0x14 => some (.call0 (immField w))
  | 0x15 => some .ret
  | 0x16 => some (.jmp1 (regField w 0))
  | 0x17 => some (.cx (Cond.ofCode (nibField w 16)) (immField w))
  | 0x18 => some (.call1 (regField w 0))
  | 0x20 => some (.ldi0 (regField w 16) (immField w))
  | 0x21 => some (.ldi1 (regField w 16) (immField w))
  | 0x22 => some (.ldm0 (regField w 16) (immField w))
  | 0x23 => some (.ldm1 (regField w 0) (regField w 12))
  | 0x24 => some (.mov (regField w 0) (regField w 12))
  | 0x30 => some (.stm0 (regField w 16) (immField w))
  | 0x31 => some (.stm1 (regField w 0) (regField w 12))
  | 0x40 => some (.addi (regField w 16) (immField w))
  | 0x41 => some (.add0 (regField w 0) (regField w 12))
  | 0x42 => some (.add1 (regField w 0) (regField w 12) (regField w 16))
  | 0x50 => some (.subi (regField w 16) (immField w))
  | 0x51 => some (.sub0 (regField w 0) (regField w 12))
  | 0x52 => some (.sub1 (regField w 0) (regField w 12) (regField w 16))
  | 0x53 => some (.cmpi (regField w 16) (immField w))
  | 0x54 => some (.cmp (regField w 0) (regField w 12))
  | 0x60 => some (.andi (regField w 16) (immField w))
  | 0x61 => some (.and0 (regField w 0) (regField w 12))
  | 0x62 => some (.and1 (regField w 0) (regField w 12) (regField w 16))
  | 0x63 => some (.tsti (regField w 16) (immField w))
  | 0x64 => some (.tst (regField w 0) (regField w 12))
  | 0x70 => some (.ori (regField w 16) (immField w))
  | 0x71 => some (.or0 (regField w 0) (regField w 12))
  | 0x72 => some (.or1 (regField w 0) (regField w 12) (regField w 16))
  | 0x80 => some (.xori (regField w 16) (immField w))
  | 0x81 => some (.xor0 (regField w 0) (regField w 12))
  | 0x82 => some (.xor1 (regField w 0) (regField w 12) (regField w 16))
  | 0x90 => some (.muli (regField w 16) (immField w))
  | 0x91 => some (.mul0 (regField w 0) (regField w 12))
  | 0x92 => some (.mul1 (regField w 0) (regField w 12) (regField w 16))
  | 0xA0 => some (.divi (regField w 16) (immField w))
  | 0xA1 => some (.div0 (regField w 0) (regField w 12))
  | 0xA2 => some (.div1 (regField w 0) (regField w 12) (regField w 16))
  | 0xA3 => some (.modi (regField w 16) (immField w))
  | 0xA4 => some (.mod0 (regField w 0) (regField w 12))
  | 0xA5 => some (.mod1 (regField w 0) (regField w 12) (regField w 16))
  | 0xA6 => some (.remi (regField w 16) (immField w))
  | 0xA7 => some (.rem0 (regField w 0) (regField w 12))
  | 0xA8 => some (.rem1 (regField w 0) (regField w 12) (regField w 16))
  | 0xB0 => some (.shli (regField w 16) (nibField w 0))
  | 0xB1 => some (.shri (regField w 16) (nibField w 0))
  | 0xB2 => some (.sari (regField w 16) (nibField w 0))
  | 0xB3 => some (.shl0 (regField w 0) (regField w 12))
  | 0xB4 => some (.shr0 (regField w 0) (regField w 12))
  | 0xB5 => some (.sar0 (regField w 0) (regField w 12))
  | 0xC0 => some (.push (regField w 0))
  | 0xC1 => some (.pop (regField w 0))
  | 0xC2 => some .pushall
  | 0xC3 => some .popall
  | 0xC4 => some .pushf
  | 0xC5 => some .popf
  | 0xD0 => some (.pal0 (immField w))
  | 0xD1 => some (.pal1 (regField w 0))
  | 0xE0 => some (.noti (regField w 16) (immField w))
  | 0xE1 => some (.not0 (regField w 0))
  | 0xE2 => some (.not1 (regField w 0) (regField w 12))
  | 0xE3 => some (.negi (regField w 16) (immField w))
  | 0xE4 => some (.neg0 (regField w 0))
  | 0xE5 => some (.neg1 (regField w 0) (regField w 12))
  | _ => none

/-- Decoding: a pure function of the word; an unassigned top byte is rejected by name (30 R101,
R118), whatever the other bits. -/
def decodeWord (w : InstrWord) : Except DecodeError Instr :=
  match operationOf (opcodeField w) w with
  | some i => .ok i
  | none => .error (.unknownOpcode (opcodeField w))

/-- The four bytes at rising addresses as one word, byte 0 in bits 31:24 (20 R71, 30 R100). -/
def wordOfBytes (b0 b1 b2 b3 : Byte) : InstrWord := b0 ++ b1 ++ b2 ++ b3

/-- The four bytes of a word in memory order (20 R71). -/
def bytesOfWord (w : InstrWord) : List Byte :=
  [w.extractLsb' 24 8, w.extractLsb' 16 8, w.extractLsb' 8 8, w.extractLsb' 0 8]

/-- Decoding bytes in memory order. There is one instruction length, 4 bytes (30 R100); a list of
another length is no instruction. -/
def decodeBytes : List Byte → Option Instr
  | [b0, b1, b2, b3] => (decodeWord (wordOfBytes b0 b1 b2 b3)).toOption
  | _ => none

/-- The instruction read from the low nbits bits of w, numbered as spec/opcode_table.json numbers
them: one 32-bit word, laid out big-endian and decoded. Bits from nbits upward are 0. -/
def decodeTableWord (nbits w : Nat) : Option Instr :=
  decodeBytes (bytesOfWord (BitVec.ofNat 32 (w % 2 ^ nbits)))

/-! ### Encoding

One function per format; every ignored bit is written 0 (30 R115). -/

/-- A register index as its 4-bit field. -/
def regBits (x : Reg) : Nibble := BitVec.ofFin x

/-- A field placed with its lowest bit at bit lo of the word, every other bit 0. -/
def fieldAt {k : Nat} (v : BitVec k) (lo : Nat) : InstrWord := v.setWidth 32 <<< lo

/-- Format N (30 R103). -/
def encN (op : Byte) : InstrWord := fieldAt op 24

/-- Format A (30 R104). -/
def encA (op : Byte) (imm : Word) : InstrWord := fieldAt op 24 ||| fieldAt imm 0

/-- Format RI (30 R105). -/
def encRI (op : Byte) (x : Reg) (imm : Word) : InstrWord :=
  fieldAt op 24 ||| fieldAt (regBits x) 16 ||| fieldAt imm 0

/-- Format CI (30 R106). -/
def encCI (op : Byte) (c : Cond) (addr : Word) : InstrWord :=
  fieldAt op 24 ||| fieldAt c.code 16 ||| fieldAt addr 0

/-- Format RN (30 R107). -/
def encRN (op : Byte) (x : Reg) (n : Nibble) : InstrWord :=
  fieldAt op 24 ||| fieldAt (regBits x) 16 ||| fieldAt n 0

/-- Format K (30 R108). -/
def encK (op : Byte) (n : Nibble) : InstrWord := fieldAt op 24 ||| fieldAt n 0

/-- Format R (30 R109). -/
def encR (op : Byte) (x : Reg) : InstrWord := fieldAt op 24 ||| fieldAt (regBits x) 0

/-- Format RR (30 R110): Y in bits 15:12, X in bits 3:0. -/
def encRR (op : Byte) (x y : Reg) : InstrWord :=
  fieldAt op 24 ||| fieldAt (regBits y) 12 ||| fieldAt (regBits x) 0

/-- Format RRR (30 R111): Z in bits 19:16, Y in bits 15:12, X in bits 3:0. -/
def encRRR (op : Byte) (x y z : Reg) : InstrWord :=
  fieldAt op 24 ||| fieldAt (regBits z) 16 ||| fieldAt (regBits y) 12 ||| fieldAt (regBits x) 0

/-- Format RRA (30 R112): Y in bits 23:20, X in bits 19:16. -/
def encRRA (op : Byte) (x y : Reg) (imm : Word) : InstrWord :=
  fieldAt op 24 ||| fieldAt (regBits y) 20 ||| fieldAt (regBits x) 16 ||| fieldAt imm 0

/-- Format S (30 R113). -/
def encS (op : Byte) (a d v t sus rel : Nibble) : InstrWord :=
  fieldAt op 24 ||| fieldAt a 20 ||| fieldAt d 16 ||| fieldAt v 12 ||| fieldAt t 8 |||
    fieldAt sus 4 ||| fieldAt rel 0

/-- Format F (30 R114): w[1:0] = n selects FLIPn. -/
def encF (op : Byte) (n : BitVec 2) : InstrWord := fieldAt op 24 ||| fieldAt n 0

/-- The word of an instruction (30 R117, R119). -/
def encode : Instr → InstrWord
  | .nop => encN 0x00
  | .cls => encN 0x01
  | .vblnk => encN 0x02
  | .bgc n => encK 0x03 n
  | .spr imm => encA 0x04 imm
  | .drw0 x y imm => encRRA 0x05 x y imm
  | .drw1 x y z => encRRR 0x06 x y z
  | .rnd x imm => encRI 0x07 x imm
  | .flip0 => encF 0x08 0
  | .flip1 => encF 0x08 1
  | .flip2 => encF 0x08 2
  | .flip3 => encF 0x08 3
  | .snd0 => encN 0x09
  | .snd1 imm => encA 0x0A imm
  | .snd2 imm => encA 0x0B imm
  | .snd3 imm => encA 0x0C imm
  | .snp x imm => encRI 0x0D x imm
  | .sng a d v t sus rel => encS 0x0E a d v t sus rel
  | .jmp0 imm => encA 0x10 imm
  | .jmc imm => encA 0x11 imm
  | .jx c addr => encCI 0x12 c addr
  | .jme x y imm => encRRA 0x13 x y imm
  | .call0 imm => encA 0x14 imm
  | .ret => encN 0x15
  | .jmp1 x => encR 0x16 x
  | .cx c addr => encCI 0x17 c addr
  | .call1 x => encR 0x18 x
  | .ldi0 x imm => encRI 0x20 x imm
  | .ldi1 x imm => encRI 0x21 x imm
  | .ldm0 x imm => encRI 0x22 x imm
  | .ldm1 x y => encRR 0x23 x y
  | .mov x y => encRR 0x24 x y
  | .stm0 x imm => encRI 0x30 x imm
  | .stm1 x y => encRR 0x31 x y
  | .addi x imm => encRI 0x40 x imm
  | .add0 x y => encRR 0x41 x y
  | .add1 x y z => encRRR 0x42 x y z
  | .subi x imm => encRI 0x50 x imm
  | .sub0 x y => encRR 0x51 x y
  | .sub1 x y z => encRRR 0x52 x y z
  | .cmpi x imm => encRI 0x53 x imm
  | .cmp x y => encRR 0x54 x y
  | .andi x imm => encRI 0x60 x imm
  | .and0 x y => encRR 0x61 x y
  | .and1 x y z => encRRR 0x62 x y z
  | .tsti x imm => encRI 0x63 x imm
  | .tst x y => encRR 0x64 x y
  | .ori x imm => encRI 0x70 x imm
  | .or0 x y => encRR 0x71 x y
  | .or1 x y z => encRRR 0x72 x y z
  | .xori x imm => encRI 0x80 x imm
  | .xor0 x y => encRR 0x81 x y
  | .xor1 x y z => encRRR 0x82 x y z
  | .muli x imm => encRI 0x90 x imm
  | .mul0 x y => encRR 0x91 x y
  | .mul1 x y z => encRRR 0x92 x y z
  | .divi x imm => encRI 0xA0 x imm
  | .div0 x y => encRR 0xA1 x y
  | .div1 x y z => encRRR 0xA2 x y z
  | .modi x imm => encRI 0xA3 x imm
  | .mod0 x y => encRR 0xA4 x y
  | .mod1 x y z => encRRR 0xA5 x y z
  | .remi x imm => encRI 0xA6 x imm
  | .rem0 x y => encRR 0xA7 x y
  | .rem1 x y z => encRRR 0xA8 x y z
  | .shli x n => encRN 0xB0 x n
  | .shri x n => encRN 0xB1 x n
  | .sari x n => encRN 0xB2 x n
  | .shl0 x y => encRR 0xB3 x y
  | .shr0 x y => encRR 0xB4 x y
  | .sar0 x y => encRR 0xB5 x y
  | .push x => encR 0xC0 x
  | .pop x => encR 0xC1 x
  | .pushall => encN 0xC2
  | .popall => encN 0xC3
  | .pushf => encN 0xC4
  | .popf => encN 0xC5
  | .pal0 imm => encA 0xD0 imm
  | .pal1 x => encR 0xD1 x
  | .noti x imm => encRI 0xE0 x imm
  | .not0 x => encR 0xE1 x
  | .not1 x y => encRR 0xE2 x y
  | .negi x imm => encRI 0xE3 x imm
  | .neg0 x => encR 0xE4 x
  | .neg1 x y => encRR 0xE5 x y

/-- The opcode byte of each operation (30 R117). -/
def Instr.opcode : Instr → Byte
  | .nop => 0x00
  | .cls => 0x01
  | .vblnk => 0x02
  | .bgc _ => 0x03
  | .spr _ => 0x04
  | .drw0 _ _ _ => 0x05
  | .drw1 _ _ _ => 0x06
  | .rnd _ _ => 0x07
  | .flip0 => 0x08
  | .flip1 => 0x08
  | .flip2 => 0x08
  | .flip3 => 0x08
  | .snd0 => 0x09
  | .snd1 _ => 0x0A
  | .snd2 _ => 0x0B
  | .snd3 _ => 0x0C
  | .snp _ _ => 0x0D
  | .sng _ _ _ _ _ _ => 0x0E
  | .jmp0 _ => 0x10
  | .jmc _ => 0x11
  | .jx _ _ => 0x12
  | .jme _ _ _ => 0x13
  | .call0 _ => 0x14
  | .ret => 0x15
  | .jmp1 _ => 0x16
  | .cx _ _ => 0x17
  | .call1 _ => 0x18
  | .ldi0 _ _ => 0x20
  | .ldi1 _ _ => 0x21
  | .ldm0 _ _ => 0x22
  | .ldm1 _ _ => 0x23
  | .mov _ _ => 0x24
  | .stm0 _ _ => 0x30
  | .stm1 _ _ => 0x31
  | .addi _ _ => 0x40
  | .add0 _ _ => 0x41
  | .add1 _ _ _ => 0x42
  | .subi _ _ => 0x50
  | .sub0 _ _ => 0x51
  | .sub1 _ _ _ => 0x52
  | .cmpi _ _ => 0x53
  | .cmp _ _ => 0x54
  | .andi _ _ => 0x60
  | .and0 _ _ => 0x61
  | .and1 _ _ _ => 0x62
  | .tsti _ _ => 0x63
  | .tst _ _ => 0x64
  | .ori _ _ => 0x70
  | .or0 _ _ => 0x71
  | .or1 _ _ _ => 0x72
  | .xori _ _ => 0x80
  | .xor0 _ _ => 0x81
  | .xor1 _ _ _ => 0x82
  | .muli _ _ => 0x90
  | .mul0 _ _ => 0x91
  | .mul1 _ _ _ => 0x92
  | .divi _ _ => 0xA0
  | .div0 _ _ => 0xA1
  | .div1 _ _ _ => 0xA2
  | .modi _ _ => 0xA3
  | .mod0 _ _ => 0xA4
  | .mod1 _ _ _ => 0xA5
  | .remi _ _ => 0xA6
  | .rem0 _ _ => 0xA7
  | .rem1 _ _ _ => 0xA8
  | .shli _ _ => 0xB0
  | .shri _ _ => 0xB1
  | .sari _ _ => 0xB2
  | .shl0 _ _ => 0xB3
  | .shr0 _ _ => 0xB4
  | .sar0 _ _ => 0xB5
  | .push _ => 0xC0
  | .pop _ => 0xC1
  | .pushall => 0xC2
  | .popall => 0xC3
  | .pushf => 0xC4
  | .popf => 0xC5
  | .pal0 _ => 0xD0
  | .pal1 _ => 0xD1
  | .noti _ _ => 0xE0
  | .not0 _ => 0xE1
  | .not1 _ _ => 0xE2
  | .negi _ _ => 0xE3
  | .neg0 _ => 0xE4
  | .neg1 _ _ => 0xE5

/-- The format of each operation (30 R117). -/
def Instr.format : Instr → Format
  | .nop => .n
  | .cls => .n
  | .vblnk => .n
  | .bgc _ => .k
  | .spr _ => .a
  | .drw0 _ _ _ => .rra
  | .drw1 _ _ _ => .rrr
  | .rnd _ _ => .ri
  | .flip0 => .f
  | .flip1 => .f
  | .flip2 => .f
  | .flip3 => .f
  | .snd0 => .n
  | .snd1 _ => .a
  | .snd2 _ => .a
  | .snd3 _ => .a
  | .snp _ _ => .ri
  | .sng _ _ _ _ _ _ => .s
  | .jmp0 _ => .a
  | .jmc _ => .a
  | .jx _ _ => .ci
  | .jme _ _ _ => .rra
  | .call0 _ => .a
  | .ret => .n
  | .jmp1 _ => .r
  | .cx _ _ => .ci
  | .call1 _ => .r
  | .ldi0 _ _ => .ri
  | .ldi1 _ _ => .ri
  | .ldm0 _ _ => .ri
  | .ldm1 _ _ => .rr
  | .mov _ _ => .rr
  | .stm0 _ _ => .ri
  | .stm1 _ _ => .rr
  | .addi _ _ => .ri
  | .add0 _ _ => .rr
  | .add1 _ _ _ => .rrr
  | .subi _ _ => .ri
  | .sub0 _ _ => .rr
  | .sub1 _ _ _ => .rrr
  | .cmpi _ _ => .ri
  | .cmp _ _ => .rr
  | .andi _ _ => .ri
  | .and0 _ _ => .rr
  | .and1 _ _ _ => .rrr
  | .tsti _ _ => .ri
  | .tst _ _ => .rr
  | .ori _ _ => .ri
  | .or0 _ _ => .rr
  | .or1 _ _ _ => .rrr
  | .xori _ _ => .ri
  | .xor0 _ _ => .rr
  | .xor1 _ _ _ => .rrr
  | .muli _ _ => .ri
  | .mul0 _ _ => .rr
  | .mul1 _ _ _ => .rrr
  | .divi _ _ => .ri
  | .div0 _ _ => .rr
  | .div1 _ _ _ => .rrr
  | .modi _ _ => .ri
  | .mod0 _ _ => .rr
  | .mod1 _ _ _ => .rrr
  | .remi _ _ => .ri
  | .rem0 _ _ => .rr
  | .rem1 _ _ _ => .rrr
  | .shli _ _ => .rn
  | .shri _ _ => .rn
  | .sari _ _ => .rn
  | .shl0 _ _ => .rr
  | .shr0 _ _ => .rr
  | .sar0 _ _ => .rr
  | .push _ => .r
  | .pop _ => .r
  | .pushall => .n
  | .popall => .n
  | .pushf => .n
  | .popf => .n
  | .pal0 _ => .a
  | .pal1 _ => .r
  | .noti _ _ => .ri
  | .not0 _ => .r
  | .not1 _ _ => .rr
  | .negi _ _ => .ri
  | .neg0 _ => .r
  | .neg1 _ _ => .rr

/-- The ignored bits of a format, the `-` of its diagram (30 R103 to R114). -/
def Format.ignored : Format → InstrWord
  | .n => 0x00FFFFFF
  | .a => 0x00FF0000
  | .ri => 0x00F00000
  | .ci => 0x00F00000
  | .rn => 0x00F0FFF0
  | .k => 0x00FFFFF0
  | .r => 0x00FFFFF0
  | .rr => 0x00FF0FF0
  | .rrr => 0x00F00FF0
  | .rra => 0
  | .s => 0
  | .f => 0x00FFFFFC

/-- A word an encoder writes: it decodes, and its ignored bits are 0 (30 R115). -/
def canonicalWord (w : InstrWord) : Bool :=
  match decodeWord w with
  | .ok i => w &&& i.format.ignored == 0
  | .error _ => false

end Sys2Proof
end

