-- ==== Sys2Proof/Machine/State.lean ====
section
/-! DEFINITION. The state of the rchip16 core (spec 10), its faults (60 R400) and its reset
(70 R441). -/

namespace Sys2Proof.Machine

/-- The four flags, each one independent bit (10 R37). The byte FLAGS is the view `flagsByte`. -/
structure Flags where
  c : Bool
  z : Bool
  o : Bool
  n : Bool
deriving DecidableEq, Repr

/-- A call on the Peripheral Interface with its arguments (60 R417). `random` has no constructor:
the core does not make it (60 R417, 46 R318). The channel of a tone has no stated width and is a
number (DESIGN CHOICE, safe; log 11). -/
inductive Call where
  | drawSprite (address x y : Word) (width height colorStartIndex : Byte) (hflip vflip : Bool)
  | setBackground (colorIndex : Nibble)
  | setPalette (slot : Nibble) (rgb : BitVec 24)
  | clearScreen
  | playTone (channel : Nat) (frequency duration : Word) (attack decay sustain release : Nibble)
  | waitVblank
deriving DecidableEq, Repr

/-- What a step that commits returns to the host: `Ok`, or `Yield` after VBLNK (60 R401). -/
inductive StepResult where
  | ok
  | yield
deriving DecidableEq, Repr

/-- The bytes of memory that are not 0x00, as (address, byte) pairs at rising addresses
(`Memory.wf`); an unlisted address reads the power-on value 0x00 (10 R47; log 6). -/
abbrev Memory := List Host.Cell

/-- Everything the core holds between steps (10 R30 to R47), and nothing besides (10 R48): the outcome
of a step is not in it. This is the state the host's surface works on (`Machine/HostSurface.lean`). -/
structure CoreState where
  /-- r0 to r15 (10 R30). -/
  regs : Vector Word 16
  /-- The address of the next instruction to fetch (10 R33). -/
  pc : Word
  /-- The stack pointer; 0x0000 is the empty stack (10 R35). -/
  sp : Word
  /-- C, Z, O, N (10 R37). -/
  flags : Flags
  /-- Background colour, 8 bits holding 0 to 15 (10 R41). -/
  bgc : Byte
  /-- Sprite width (10 R41). -/
  sprW : Byte
  /-- Sprite height (10 R41). -/
  sprH : Byte
  /-- Horizontal flip (10 R41). -/
  hflip : Bool
  /-- Vertical flip (10 R41). -/
  vflip : Bool
  /-- Tone envelope, attack (10 R42). -/
  envA : Nibble
  /-- Tone envelope, decay (10 R42). -/
  envD : Nibble
  /-- Tone envelope, sustain (10 R42). -/
  envS : Nibble
  /-- Tone envelope, release (10 R42). -/
  envR : Nibble
  /-- Random-number generator state (10 R45). -/
  rng : Config.RngState
  /-- Memory (10 R46). -/
  mem : Memory
deriving DecidableEq, Repr

/-- What `exec` and `step` work on: the core's state, and beside it what the step in progress gives the
host, because the host protocol's `next` has no other place for it. The two records are the model's
own; no instruction reads them, and `hostStep` hands them to the host and keeps the core's state
alone (10 R48). -/
structure State extends CoreState where
  /-- MODEL'S OWN: the outcome a committed step returns (60 R401). DESIGN CHOICE, safe; log 1. -/
  result : StepResult
  /-- MODEL'S OWN: the Peripheral Interface calls delivered so far, oldest first (60 R418). DESIGN
  CHOICE, safe; log 2. -/
  calls : List Call
deriving DecidableEq, Repr

/-- The five faults of 60 R400 with their payloads. A fault is the step's outcome: the state stays
as it was before the step (60 R402; log 5). Every one is named by the spec, so each is safe. -/
inductive Fault where
  /-- Raised by decode: b is the unassigned opcode byte (60 R403). Safe. -/
  | unknownOpcode (b : Byte)
  /-- Raised by fetch, LDM0, LDM1, STM0, STM1, SNP, PAL0, PAL1: an access of n bytes at a leaves
  memory (60 R404). Safe. -/
  | outOfBounds (a : Word) (n : Nat)
  /-- Raised by the DIV, MOD and REM instructions on a zero divisor (60 R405). Safe. -/
  | divisionByZero
  /-- Raised by a push that does not fit; sp is its value before the instruction (60 R406). Safe. -/
  | stackOverflow (sp : Word)
  /-- Raised by a pop past the top of memory; sp is its value before the instruction (60 R407).
  Safe. -/
  | stackUnderflow (sp : Word)
deriving DecidableEq, Repr

/-- Inputs the spec gives no meaning. No instruction of this model is refused. -/
inductive Refusal where
  /-- Raised by an arm of `exec` for an instruction without a meaning; no arm does so. Safe. -/
  | notModelled (mnemonic : String)
  /-- Raised by the host's `new` with a size other than MEM_SIZE (70 R440, 93 I6). Safe. -/
  | badMemorySize (size : Nat)
  /-- Raised by the host's `register` or `set_register` with an index above 15 (70 R445, 93 I7).
  Safe. -/
  | badRegisterIndex (index : Nat)
deriving DecidableEq, Repr

/-- The state right after `new` (70 R441): everything zero, rng at RNG_SEED. The two output records
start at Ok and empty (logs 1 and 2). -/
def State.reset : State where
  regs := Vector.replicate 16 0
  pc := 0
  sp := 0
  flags := { c := false, z := false, o := false, n := false }
  bgc := 0
  sprW := 0
  sprH := 0
  hflip := false
  vflip := false
  envA := 0
  envD := 0
  envS := 0
  envR := 0
  rng := Config.rngSeed
  mem := []
  result := .ok
  calls := []

end Sys2Proof.Machine
end

