-- ==== Sys2Proof/Machine/Ops.lean ====
section
/-! DEFINITION. The named operations of the core: registers, memory, stack, output, and raising a
fault (spec 00 R10, 10, 20, 60). -/

namespace Sys2Proof.Machine

/-- The outcome of executing one instruction. -/
abbrev StepOutcome := Host.Outcome State Fault Refusal

/-! ### Registers -/

/-- `x[i]` (10 R30). -/
def State.reg (s : State) (x : Reg) : Word := s.regs[x]

/-- `x[i] <- v` (10 R30). -/
def State.setReg (s : State) (x : Reg) (v : Word) : State := { s with regs := s.regs.set x v }

/-- All sixteen registers at once (POPALL, 45 R283). -/
def State.setRegs (s : State) (v : Vector Word 16) : State := { s with regs := v }

/-- `pc <- target` (10 R33). -/
def State.setPc (s : State) (target : Word) : State := { s with pc := target }

/-- `next_pc`, trunc16(pc + 4) (10 R34). -/
def State.nextPc (s : State) : Word := s.pc + 4

/-- `pc <- next_pc`, the last action of an instruction that does not write pc (00 R12). -/
def State.advance (s : State) : State := s.setPc s.nextPc

/-- `sp <- v` (10 R35). -/
def State.setSp (s : State) (v : Word) : State := { s with sp := v }

/-- Write all four flags. -/
def State.setFlags (s : State) (f : Flags) : State := { s with flags := f }

/-- Replace memory. -/
def State.setMem (s : State) (m : Memory) : State := { s with mem := m }

/-- `bgc <- v` (10 R41). -/
def State.setBgc (s : State) (v : Byte) : State := { s with bgc := v }

/-- `spr_w <- w; spr_h <- h` (10 R41). -/
def State.setSpr (s : State) (w h : Byte) : State := { s with sprW := w, sprH := h }

/-- `hflip <- h; vflip <- v` (10 R41). -/
def State.setFlip (s : State) (h v : Bool) : State := { s with hflip := h, vflip := v }

/-- `env_a <- a; env_d <- d; env_s <- sus; env_r <- rel` (10 R42). -/
def State.setEnv (s : State) (a d sus rel : Nibble) : State :=
  { s with envA := a, envD := d, envS := sus, envR := rel }

/-- `rng <- g` (10 R45). -/
def State.setRng (s : State) (g : Config.RngState) : State := { s with rng := g }

/-- The outcome this step returns when it commits (60 R401; log 1). -/
def State.setResult (s : State) (r : StepResult) : State := { s with result := r }

/-- `Emit` of a list of calls in order (60 R418; log 2). -/
def State.emitAll (s : State) (cs : List Call) : State := { s with calls := s.calls ++ cs }

/-- `Emit(call)` (60 R418). -/
def State.emit (s : State) (c : Call) : State := s.emitAll [c]

/-! ### Raising a fault -/

/-- `raise f`, the core's only form of trap entry (60 R402): the step's outcome is the fault, and
what the instruction computed so far is dropped with it. Nothing is saved and control goes to the
host; there is no return from it (60 R411, R412). -/
def raise (f : Fault) : StepOutcome := .fault f

/-- Go on with the value of an operation that may raise. -/
def orRaise {α : Type} (e : Except Fault α) (k : α → StepOutcome) : StepOutcome :=
  match e with
  | .ok v => k v
  | .error f => raise f

/-! ### Memory -/

/-- What an address that memory does not list reads as (10 R47). -/
def unlistedByte : Byte := 0

/-- The canonical form of memory: addresses strictly rising and inside [0, MEM_SIZE), and no entry
equal to what an unlisted address reads as. -/
abbrev Memory.wf (m : Memory) : Prop :=
  m.Pairwise (fun p q => p.1 < q.1) ∧ ∀ p ∈ m, p.1 < Config.memSize ∧ p.2 ≠ unlistedByte

/-- `mem[a]` (10 R46). -/
def readByte : Memory → Nat → Byte
  | [], _ => unlistedByte
  | (k, b) :: rest, a => if k = a then b else readByte rest a

/-- Memory without an entry for address a. -/
def eraseByte (m : Memory) (a : Nat) : Memory := m.filter (fun p => p.1 != a)

/-- Insert an entry before the first entry of a higher address. -/
def insertByte : Memory → Nat → Byte → Memory
  | [], a, v => [(a, v)]
  | (k, b) :: rest, a, v => if a < k then (a, v) :: (k, b) :: rest else (k, b) :: insertByte rest a v

/-- `mem[a] <- v` (10 R46), keeping the canonical form. -/
def writeByte (m : Memory) (a : Nat) (v : Byte) : Memory :=
  if v = unlistedByte then eraseByte m a else insertByte (eraseByte m a) a v

/-- The 16-bit word at a, high byte first (20 R71). -/
def readWord (m : Memory) (a : Nat) : Word := readByte m a ++ readByte m (a + 1)

/-- The 32-bit word at a, `word(a) || word(a+2)` (20 R71, R72). -/
def readQuad (m : Memory) (a : Nat) : InstrWord := readWord m a ++ readWord m (a + 2)

/-- `mem[a] <- v[15:8]; mem[a+1] <- v[7:0]` (20 R71, R74). -/
def writeWord (m : Memory) (a : Nat) (v : Word) : Memory :=
  writeByte (writeByte m a (v.extractLsb' 8 8)) (a + 1) (v.extractLsb' 0 8)

/-- The 32-bit word v stored at a, byte 0 from v[31:24] (20 R71). No instruction writes 4 bytes at
once (20 R74); this places an instruction for `State.withFetchWord` (log 7). -/
def writeQuad (m : Memory) (a : Nat) (v : InstrWord) : Memory :=
  writeWord (writeWord m a (v.extractLsb' 16 16)) (a + 2) (v.extractLsb' 0 16)

/-- Whether an access of n bytes at a stays inside memory (20 R73, R74). -/
def inBounds (a : Word) (n : Nat) : Bool := decide (a.toNat + n ≤ Config.memSize)

/-- `MemRead(a, 2)` (20 R73). -/
def memRead2 (s : State) (a : Word) : Except Fault Word :=
  if inBounds a 2 then .ok (readWord s.mem a.toNat) else .error (.outOfBounds a 2)

/-- `MemRead(a, 4)` (20 R73). -/
def memRead4 (s : State) (a : Word) : Except Fault InstrWord :=
  if inBounds a 4 then .ok (readQuad s.mem a.toNat) else .error (.outOfBounds a 4)

/-- `MemWrite(a, 2, v)` (20 R74). -/
def memWrite2 (s : State) (a v : Word) : Except Fault State :=
  if inBounds a 2 then .ok (s.setMem (writeWord s.mem a.toNat v)) else .error (.outOfBounds a 2)

/-- Instruction fetch: `MemRead(pc, 4)` (20 R76). -/
def fetch (s : State) : Except Fault InstrWord := memRead4 s s.pc

/-- Where `State.withFetchWord` places an instruction: pc, or the entry point 0 when no word can be
fetched at pc (20 R76; log 7). -/
def fetchPlace (pc : Word) : Word := if inBounds pc 4 then pc else 0

/-! ### Stack -/

/-- The stack position S(sp): 0x10000 if sp = 0, else sp (20 R79). -/
def stackPos (sp : Word) : Nat := if sp = 0 then 0x10000 else sp.toNat

/-- `Push(v)` (20 R80). -/
def push (s : State) (v : Word) : Except Fault State :=
  if stackPos s.sp < 2 ∨ Config.memSize < stackPos s.sp then .error (.stackOverflow s.sp)
  else .ok ((s.setMem (writeWord s.mem (stackPos s.sp - 2) v)).setSp
    (BitVec.ofNat 16 (stackPos s.sp - 2)))

/-- `Pop()`: the word and the state after it (20 R81). -/
def pop (s : State) : Except Fault (Word × State) :=
  if Config.memSize < stackPos s.sp + 2 then .error (.stackUnderflow s.sp)
  else .ok (readWord s.mem (stackPos s.sp), s.setSp (BitVec.ofNat 16 (stackPos s.sp + 2)))

/-- Words written downward from position p: the first at p - 2, the next at p - 4 (45 R282). -/
def writeDown : Memory → Nat → List Word → Memory
  | m, _, [] => m
  | m, p, v :: vs => writeDown (writeWord m (p - 2) v) (p - 2) vs

/-- All sixteen registers pushed, r0 first, the whole range checked first (45 R282). -/
def pushAll (s : State) : Except Fault State :=
  if stackPos s.sp < 32 then .error (.stackOverflow s.sp)
  else .ok ((s.setMem (writeDown s.mem (stackPos s.sp) s.regs.toList)).setSp
    (BitVec.ofNat 16 (stackPos s.sp - 32)))

/-- All sixteen registers popped: ri from S + 30 - 2i, the whole range checked first (45 R283). -/
def popAll (s : State) : Except Fault State :=
  if Config.memSize < stackPos s.sp + 32 then .error (.stackUnderflow s.sp)
  else .ok ((s.setRegs (Vector.ofFn fun i => readWord s.mem (stackPos s.sp + 30 - 2 * i.val))).setSp
    (BitVec.ofNat 16 (stackPos s.sp + 32)))

/-! ### Peripheral Interface and random numbers -/

/-- The draw call with the core's sprite registers; color_start_index is always 0 (46 R302, R303,
60 R417). -/
def drawCall (s : State) (address x y : Word) : Call :=
  .drawSprite address x y s.sprW s.sprH 0 s.hflip s.vflip

/-- `Tone(f, d)` with the current envelope (46 R311). -/
def toneCall (s : State) (f d : Word) : Call :=
  .playTone Config.toneChannel f d s.envA s.envD s.envS s.envR

/-- The call that sends palette slot i of the table at a: bytes red, green, blue (46 R308). -/
def paletteCall (m : Memory) (a i : Nat) : Call :=
  .setPalette (BitVec.ofNat 4 i)
    (readByte m (a + 3 * i) ++ readByte m (a + 3 * i + 1) ++ readByte m (a + 3 * i + 2))

/-- `LoadPalette(a)`: the whole table checked first, then one call a slot, in slot order
(46 R308). -/
def loadPalette (s : State) (a : Word) : Except Fault State :=
  if inBounds a 48 then
    .ok (s.emitAll ((List.range Config.paletteSlots).map (paletteCall s.mem a.toNat)))
  else .error (.outOfBounds a 48)

/-- `(v, s') <- RNG_NEXT(rng, bound)`, v as a word (00 R7, 46 R318; log 4). -/
def rngDraw (g : Config.RngState) (bound : Word) : Word × Config.RngState :=
  (BitVec.ofNat 16 (Config.rngNext g bound).1.val, (Config.rngNext g bound).2)

/-! ### The start of a step -/

/-- The state an instruction executes on: the outcome is Ok unless VBLNK makes it Yield (60 R401;
log 1). -/
def State.beginStep (s : State) : State := s.setResult .ok

/-- The core's state with empty output records, as a step takes it (logs 1 and 2). -/
def CoreState.begin (c : CoreState) : State := { toCoreState := c, result := .ok, calls := [] }

end Sys2Proof.Machine
end

