-- ==== Sys2Proof/Machine/Flags.lean ====
section
/-! DEFINITION. The ALU and the flags it computes (spec 41 R160 to R175, 42 R200, 43 R230), the
FLAGS byte (10 R38) and the conditions (44 R250). -/

namespace Sys2Proof.Machine

/-- A result and the flags after it. -/
abbrev AluOut := Word × Flags

/-- `FLAGS = (N << 7) | (O << 6) | (Z << 2) | (C << 1)`, the other bits 0 (10 R38). -/
def flagsByte (f : Flags) : Byte :=
  (BitVec.ofBool f.n).setWidth 8 <<< 7 ||| (BitVec.ofBool f.o).setWidth 8 <<< 6 |||
    (BitVec.ofBool f.z).setWidth 8 <<< 2 ||| (BitVec.ofBool f.c).setWidth 8 <<< 1

/-- The stack word PUSHF pushes: high byte 0x00, low byte FLAGS (45 R284). -/
def flagsWord (f : Flags) : Word := (flagsByte f).setWidth 16

/-- The flags POPF takes from a word: C bit 1, Z bit 2, O bit 6, N bit 7 (45 R285). -/
def flagsOfWord (v : Word) : Flags :=
  { c := v.getLsbD 1, z := v.getLsbD 2, o := v.getLsbD 6, n := v.getLsbD 7 }

/-- `setZN(r)` (41 R160). -/
def setZN (f : Flags) (r : Word) : Flags := { f with z := r == 0, n := r.getLsbD 15 }

/-- `Add(a, b)` (41 R161). -/
def aluAdd (f : Flags) (a b : Word) : AluOut :=
  let sum := a.toNat + b.toNat
  let r : Word := BitVec.ofNat 16 sum
  (r, setZN { f with
    c := decide (0xFFFF < sum)
    o := (a.getLsbD 15 == b.getLsbD 15) && (r.getLsbD 15 != a.getLsbD 15) } r)

/-- `Sub(a, b)`: C is the borrow (41 R162). -/
def aluSub (f : Flags) (a b : Word) : AluOut :=
  let r : Word := a - b
  (r, setZN { f with
    c := decide (a.toNat < b.toNat)
    o := (a.getLsbD 15 != b.getLsbD 15) && (r.getLsbD 15 != a.getLsbD 15) } r)

/-- `Mul(a, b)`: the low 16 bits; C when the unsigned product does not fit (41 R171). -/
def aluMul (f : Flags) (a b : Word) : AluOut :=
  let p := a.toNat * b.toNat
  let r : Word := BitVec.ofNat 16 p
  (r, setZN { f with c := decide (0xFFFF < p), o := false } r)

/-- `DivCheck(b)` before a division helper (41 R175). -/
def divChecked (b : Word) (out : AluOut) : Except Fault AluOut :=
  if b = 0 then .error .divisionByZero else .ok out

/-- `Div(a, b)`: the quotient truncated toward zero; C when the remainder is not 0 (41 R175). -/
def aluDiv (f : Flags) (a b : Word) : Except Fault AluOut :=
  let q := Int.tdiv a.toInt b.toInt
  let rem := a.toInt - b.toInt * q
  let r : Word := BitVec.ofInt 16 q
  divChecked b (r, setZN { f with c := decide (rem ≠ 0), o := false } r)

/-- `Rem(a, b)`: the remainder with the dividend's sign; C kept (41 R175). -/
def aluRem (f : Flags) (a b : Word) : Except Fault AluOut :=
  let rem := a.toInt - b.toInt * Int.tdiv a.toInt b.toInt
  let r : Word := BitVec.ofInt 16 rem
  divChecked b (r, setZN { f with o := false } r)

/-- `Mod(a, b)`: the modulo with the divisor's sign; C kept (41 R175). -/
def aluMod (f : Flags) (a b : Word) : Except Fault AluOut :=
  let m := a.toInt - b.toInt * Int.fdiv a.toInt b.toInt
  let r : Word := BitVec.ofInt 16 m
  divChecked b (r, setZN { f with o := false } r)

/-- `LogicFlags(r)`: Z and N from r, O cleared, C kept (42 R200). -/
def aluLogic (f : Flags) (r : Word) : AluOut := (r, setZN { f with o := false } r)

/-- Two's-complement negation, `trunc16(0x10000 - v)` (42 R215). -/
def negWord (v : Word) : Word := BitVec.ofNat 16 (0x10000 - v.toNat)

/-- The flags of a shift with result r and carry c (43 R230). -/
def shiftOut (f : Flags) (r : Word) (c : Bool) : AluOut := (r, setZN { f with c := c, o := false } r)

/-- `Shift(L, a, n)` (43 R230). -/
def aluShl (f : Flags) (a : Word) (n : Nibble) : AluOut :=
  if n = 0 then shiftOut f a false else shiftOut f (a <<< n.toNat) (a.getLsbD (16 - n.toNat))

/-- `Shift(R, a, n)` (43 R230). -/
def aluShr (f : Flags) (a : Word) (n : Nibble) : AluOut :=
  if n = 0 then shiftOut f a false else shiftOut f (a >>> n.toNat) (a.getLsbD (n.toNat - 1))

/-- `Shift(A, a, n)`: floor division by 2^n (43 R230). -/
def aluSar (f : Flags) (a : Word) (n : Nibble) : AluOut :=
  if n = 0 then shiftOut f a false
  else shiftOut f (BitVec.ofInt 16 (a.toInt >>> n.toNat)) (a.getLsbD (n.toNat - 1))

/-- `Cond(c)` on the flags as they stand before the instruction (44 R250, R251). -/
def condHolds (f : Flags) : Cond → Bool
  | .z => f.z
  | .nz => !f.z
  | .n => f.n
  | .nn => !f.n
  | .p => !f.n && !f.z
  | .o => f.o
  | .no => !f.o
  | .a => !f.c && !f.z
  | .ae => !f.c
  | .b => f.c
  | .be => f.c || f.z
  | .g => (f.o == f.n) && !f.z
  | .ge => f.o == f.n
  | .l => f.o != f.n
  | .le => (f.o != f.n) || f.z
  | .al => true

end Sys2Proof.Machine
end

