-- ==== Sys2Proof/Machine/Operands.lean ====
section
/-! DEFINITION. The operand forms of the instructions and how each form ends: where a result goes,
which pc follows (spec 30 R103 to R116, 40 to 46). -/

namespace Sys2Proof.Machine

/-- The shift amount of a register form, `x[Y][3:0]` (43 R234). -/
def shiftAmount (v : Word) : Nibble := v.extractLsb' 0 4

/-- The sprite width in SPR's immediate, `imm16[7:0]` (46 R301). -/
def sprWidthOf (imm : Word) : Byte := imm.extractLsb' 0 8

/-- The sprite height in SPR's immediate, `imm16[15:8]` (46 R301). -/
def sprHeightOf (imm : Word) : Byte := imm.extractLsb' 8 8

/-- The end of an instruction that does not transfer control: `pc <- next_pc` (00 R12). -/
def finish (s : State) : StepOutcome := .next s.advance

/-- A register destination that touches no flag. -/
def regResult (s : State) (dst : Reg) (v : Word) : StepOutcome := finish (s.setReg dst v)

/-- An ALU result into a register, with its flags. -/
def aluResult (s : State) (dst : Reg) (out : AluOut) : StepOutcome :=
  finish ((s.setReg dst out.1).setFlags out.2)

/-- An ALU result that is discarded; only its flags are kept (41 R169, 42 R204). -/
def aluFlagsOnly (s : State) (out : AluOut) : StepOutcome := finish (s.setFlags out.2)

/-- A division result into a register, or the fault of its divisor (41 R175). -/
def divResult (s : State) (dst : Reg) (out : Except Fault AluOut) : StepOutcome :=
  orRaise out (aluResult s dst)

/-- `MemRead(a, 2)` into a register (40 R142, R143). -/
def loadResult (s : State) (dst : Reg) (a : Word) : StepOutcome :=
  orRaise (memRead2 s a) (regResult s dst)

/-- `MemWrite(a, 2, v)` (40 R145, R146). -/
def storeResult (s : State) (a v : Word) : StepOutcome := orRaise (memWrite2 s a v) finish

/-- A jump: `pc <- target`, any 16-bit value, unchecked (44 R261). -/
def jumpTo (s : State) (target : Word) : StepOutcome := .next (s.setPc target)

/-- A call: `Push(next_pc); pc <- target` (44 R256). -/
def callTo (s : State) (target : Word) : StepOutcome :=
  orRaise (push s s.nextPc) (fun t => jumpTo t target)

/-- One Peripheral Interface call, then `pc <- next_pc` (60 R418). -/
def emitResult (s : State) (c : Call) : StepOutcome := finish (s.emit c)

end Sys2Proof.Machine
end

