-- ==== Sys2Proof/Machine/Arith.lean ====
section
/-! DEFINITION. Addition, subtraction, compare and multiplication (spec 41 R163 to R174). -/

namespace Sys2Proof.Machine

/-- ADDI: addition, immediate (R163). -/
def execAddi (x : Reg) (imm : Word) (s : State) : StepOutcome :=
  aluResult s x (aluAdd s.flags (s.reg x) imm)

/-- ADD0: addition, two registers, into x[X] (R164). -/
def execAdd0 (x y : Reg) (s : State) : StepOutcome :=
  aluResult s x (aluAdd s.flags (s.reg x) (s.reg y))

/-- ADD1: addition, into x[Z] (R165). -/
def execAdd1 (x y z : Reg) (s : State) : StepOutcome :=
  aluResult s z (aluAdd s.flags (s.reg x) (s.reg y))

/-- SUBI: subtraction, immediate (R166). -/
def execSubi (x : Reg) (imm : Word) (s : State) : StepOutcome :=
  aluResult s x (aluSub s.flags (s.reg x) imm)

/-- SUB0: subtraction, two registers, into x[X] (R167). -/
def execSub0 (x y : Reg) (s : State) : StepOutcome :=
  aluResult s x (aluSub s.flags (s.reg x) (s.reg y))

/-- SUB1: subtraction, into x[Z] (R168). -/
def execSub1 (x y z : Reg) (s : State) : StepOutcome :=
  aluResult s z (aluSub s.flags (s.reg x) (s.reg y))

/-- CMPI: the flags of x[X] - imm16; no register is written (R169). -/
def execCmpi (x : Reg) (imm : Word) (s : State) : StepOutcome :=
  aluFlagsOnly s (aluSub s.flags (s.reg x) imm)

/-- CMP: the flags of x[X] - x[Y]; no register is written (R170). -/
def execCmp (x y : Reg) (s : State) : StepOutcome :=
  aluFlagsOnly s (aluSub s.flags (s.reg x) (s.reg y))

/-- MULI: multiplication, immediate (R172). -/
def execMuli (x : Reg) (imm : Word) (s : State) : StepOutcome :=
  aluResult s x (aluMul s.flags (s.reg x) imm)

/-- MUL0: multiplication, two registers, into x[X] (R173). -/
def execMul0 (x y : Reg) (s : State) : StepOutcome :=
  aluResult s x (aluMul s.flags (s.reg x) (s.reg y))

/-- MUL1: multiplication, into x[Z] (R174). -/
def execMul1 (x y z : Reg) (s : State) : StepOutcome :=
  aluResult s z (aluMul s.flags (s.reg x) (s.reg y))

end Sys2Proof.Machine
end

