-- ==== Sys2Proof/Machine/Control.lean ====
section
/-! DEFINITION. Control transfer; no instruction here writes a flag (spec 44 R252 to R260). -/

namespace Sys2Proof.Machine

/-- JMP0: jump to an absolute address (R252). -/
def execJmp0 (imm : Word) (s : State) : StepOutcome :=
  jumpTo s imm

/-- JMP1: jump to a register address (R258). -/
def execJmp1 (x : Reg) (s : State) : StepOutcome :=
  jumpTo s (s.reg x)

/-- JMC: jump if carry (R253). -/
def execJmc (imm : Word) (s : State) : StepOutcome :=
  if s.flags.c then jumpTo s imm else finish s

/-- JX: jump if the condition holds (R254). -/
def execJx (c : Cond) (addr : Word) (s : State) : StepOutcome :=
  if condHolds s.flags c then jumpTo s addr else finish s

/-- JME: jump if the registers are equal (R255). -/
def execJme (x y : Reg) (imm : Word) (s : State) : StepOutcome :=
  if s.reg x = s.reg y then jumpTo s imm else finish s

/-- CALL0: call an absolute address (R256). -/
def execCall0 (imm : Word) (s : State) : StepOutcome :=
  callTo s imm

/-- CALL1: call a register address (R260). -/
def execCall1 (x : Reg) (s : State) : StepOutcome :=
  callTo s (s.reg x)

/-- CX: call if the condition holds; without it nothing is pushed and nothing can fault (R259). -/
def execCx (c : Cond) (addr : Word) (s : State) : StepOutcome :=
  if condHolds s.flags c then callTo s addr else finish s

/-- RET: return: pc <- Pop() (R257). -/
def execRet (s : State) : StepOutcome :=
  orRaise (pop s) (fun r => jumpTo r.2 r.1)

end Sys2Proof.Machine
end

