-- ==== Sys2Proof/Machine/DataMove.lean ====
section
/-! DEFINITION. Data movement (spec 40 R140 to R146). No instruction here reads or writes a flag. -/

namespace Sys2Proof.Machine

/-- LDI0: load an immediate (R140). -/
def execLdi0 (x : Reg) (imm : Word) (s : State) : StepOutcome :=
  regResult s x imm

/-- LDI1: load an immediate, second encoding; the same effect as LDI0, and sp is not written (R141). -/
def execLdi1 (x : Reg) (imm : Word) (s : State) : StepOutcome :=
  regResult s x imm

/-- LDM0: load the word at an absolute address (R142). -/
def execLdm0 (x : Reg) (imm : Word) (s : State) : StepOutcome :=
  loadResult s x imm

/-- LDM1: load the word at a register address, which is read before x[X] is written (R143). -/
def execLdm1 (x y : Reg) (s : State) : StepOutcome :=
  loadResult s x (s.reg y)

/-- MOV: copy a register (R144). -/
def execMov (x y : Reg) (s : State) : StepOutcome :=
  regResult s x (s.reg y)

/-- STM0: store a register at an absolute address (R145). -/
def execStm0 (x : Reg) (imm : Word) (s : State) : StepOutcome :=
  storeResult s imm (s.reg x)

/-- STM1: store a register at a register address (R146). -/
def execStm1 (x y : Reg) (s : State) : StepOutcome :=
  storeResult s (s.reg y) (s.reg x)

end Sys2Proof.Machine
end

