-- ==== Sys2Proof/Machine/Division.lean ====
section
/-! DEFINITION. Division, modulo and remainder, faulting on a zero divisor (spec 41 R176 to R184). -/

namespace Sys2Proof.Machine

/-- DIVI: truncating signed quotient, immediate (R176). -/
def execDivi (x : Reg) (imm : Word) (s : State) : StepOutcome :=
  divResult s x (aluDiv s.flags (s.reg x) imm)

/-- DIV0: truncating signed quotient, two registers, into x[X] (R177). -/
def execDiv0 (x y : Reg) (s : State) : StepOutcome :=
  divResult s x (aluDiv s.flags (s.reg x) (s.reg y))

/-- DIV1: truncating signed quotient, into x[Z] (R178). -/
def execDiv1 (x y z : Reg) (s : State) : StepOutcome :=
  divResult s z (aluDiv s.flags (s.reg x) (s.reg y))

/-- MODI: modulo with the sign of the divisor, immediate (R179). -/
def execModi (x : Reg) (imm : Word) (s : State) : StepOutcome :=
  divResult s x (aluMod s.flags (s.reg x) imm)

/-- MOD0: modulo with the sign of the divisor, two registers, into x[X] (R180). -/
def execMod0 (x y : Reg) (s : State) : StepOutcome :=
  divResult s x (aluMod s.flags (s.reg x) (s.reg y))

/-- MOD1: modulo with the sign of the divisor, into x[Z] (R181). -/
def execMod1 (x y z : Reg) (s : State) : StepOutcome :=
  divResult s z (aluMod s.flags (s.reg x) (s.reg y))

/-- REMI: remainder with the sign of the dividend, immediate (R182). -/
def execRemi (x : Reg) (imm : Word) (s : State) : StepOutcome :=
  divResult s x (aluRem s.flags (s.reg x) imm)

/-- REM0: remainder with the sign of the dividend, two registers, into x[X] (R183). -/
def execRem0 (x y : Reg) (s : State) : StepOutcome :=
  divResult s x (aluRem s.flags (s.reg x) (s.reg y))

/-- REM1: remainder with the sign of the dividend, into x[Z] (R184). -/
def execRem1 (x y z : Reg) (s : State) : StepOutcome :=
  divResult s z (aluRem s.flags (s.reg x) (s.reg y))

end Sys2Proof.Machine
end

