-- ==== Sys2Proof/Machine/Logic.lean ====
section
/-! DEFINITION. Logic: Z and N from the result, O cleared, C kept (spec 42 R201 to R217). -/

namespace Sys2Proof.Machine

/-- ANDI: bitwise AND, immediate (R201). -/
def execAndi (x : Reg) (imm : Word) (s : State) : StepOutcome :=
  aluResult s x (aluLogic s.flags (s.reg x &&& imm))

/-- AND0: bitwise AND, two registers, into x[X] (R202). -/
def execAnd0 (x y : Reg) (s : State) : StepOutcome :=
  aluResult s x (aluLogic s.flags (s.reg x &&& s.reg y))

/-- AND1: bitwise AND, into x[Z] (R203). -/
def execAnd1 (x y z : Reg) (s : State) : StepOutcome :=
  aluResult s z (aluLogic s.flags (s.reg x &&& s.reg y))

/-- TSTI: the flags of x[X] AND imm16; no register is written (R204). -/
def execTsti (x : Reg) (imm : Word) (s : State) : StepOutcome :=
  aluFlagsOnly s (aluLogic s.flags (s.reg x &&& imm))

/-- TST: the flags of x[X] AND x[Y]; no register is written (R205). -/
def execTst (x y : Reg) (s : State) : StepOutcome :=
  aluFlagsOnly s (aluLogic s.flags (s.reg x &&& s.reg y))

/-- ORI: bitwise OR, immediate (R206). -/
def execOri (x : Reg) (imm : Word) (s : State) : StepOutcome :=
  aluResult s x (aluLogic s.flags (s.reg x ||| imm))

/-- OR0: bitwise OR, two registers, into x[X] (R207). -/
def execOr0 (x y : Reg) (s : State) : StepOutcome :=
  aluResult s x (aluLogic s.flags (s.reg x ||| s.reg y))

/-- OR1: bitwise OR, into x[Z] (R208). -/
def execOr1 (x y z : Reg) (s : State) : StepOutcome :=
  aluResult s z (aluLogic s.flags (s.reg x ||| s.reg y))

/-- XORI: bitwise exclusive OR, immediate (R209). -/
def execXori (x : Reg) (imm : Word) (s : State) : StepOutcome :=
  aluResult s x (aluLogic s.flags (s.reg x ^^^ imm))

/-- XOR0: bitwise exclusive OR, two registers, into x[X] (R210). -/
def execXor0 (x y : Reg) (s : State) : StepOutcome :=
  aluResult s x (aluLogic s.flags (s.reg x ^^^ s.reg y))

/-- XOR1: bitwise exclusive OR, into x[Z] (R211). -/
def execXor1 (x y z : Reg) (s : State) : StepOutcome :=
  aluResult s z (aluLogic s.flags (s.reg x ^^^ s.reg y))

/-- NOTI: the complement of the immediate; the old x[X] is not read (R212). -/
def execNoti (x : Reg) (imm : Word) (s : State) : StepOutcome :=
  aluResult s x (aluLogic s.flags (imm ^^^ 0xFFFF))

/-- NOT0: complement in place (R213). -/
def execNot0 (x : Reg) (s : State) : StepOutcome :=
  aluResult s x (aluLogic s.flags (s.reg x ^^^ 0xFFFF))

/-- NOT1: the complement of x[Y] into x[X] (R214). -/
def execNot1 (x y : Reg) (s : State) : StepOutcome :=
  aluResult s x (aluLogic s.flags (s.reg y ^^^ 0xFFFF))

/-- NEGI: the negation of the immediate; the old x[X] is not read (R215). -/
def execNegi (x : Reg) (imm : Word) (s : State) : StepOutcome :=
  aluResult s x (aluLogic s.flags (negWord imm))

/-- NEG0: negate in place (R216). -/
def execNeg0 (x : Reg) (s : State) : StepOutcome :=
  aluResult s x (aluLogic s.flags (negWord (s.reg x)))

/-- NEG1: the negation of x[Y] into x[X] (R217). -/
def execNeg1 (x y : Reg) (s : State) : StepOutcome :=
  aluResult s x (aluLogic s.flags (negWord (s.reg y)))

end Sys2Proof.Machine
end

