-- ==== Sys2Proof/Machine/Periph.lean ====
section
/-! DEFINITION. Peripheral-affecting and miscellaneous instructions; none writes a flag (spec 46 R300 to R321). -/

namespace Sys2Proof.Machine

/-- NOP: no operation (R320). -/
def execNop (s : State) : StepOutcome :=
  finish s

/-- CLS: ask for a clear of the screen; bgc is not changed (R321). -/
def execCls (s : State) : StepOutcome :=
  emitResult s .clearScreen

/-- VBLNK: ask for the vertical blank and end the step with Yield (R319). -/
def execVblnk (s : State) : StepOutcome :=
  finish ((s.emit .waitVblank).setResult .yield)

/-- BGC: set the background colour (R300). -/
def execBgc (n : Nibble) (s : State) : StepOutcome :=
  emitResult (s.setBgc (n.setWidth 8)) (.setBackground n)

/-- SPR: set the sprite width and height; nothing is emitted (R301). -/
def execSpr (imm : Word) (s : State) : StepOutcome :=
  finish (s.setSpr (sprWidthOf imm) (sprHeightOf imm))

/-- DRW0: draw a sprite from an absolute address (R302). -/
def execDrw0 (x y : Reg) (imm : Word) (s : State) : StepOutcome :=
  emitResult s (drawCall s imm (s.reg x) (s.reg y))

/-- DRW1: draw a sprite from the address in x[Z] (R303). -/
def execDrw1 (x y z : Reg) (s : State) : StepOutcome :=
  emitResult s (drawCall s (s.reg z) (s.reg x) (s.reg y))

/-- RND: load a random number and advance rng (R318). -/
def execRnd (x : Reg) (imm : Word) (s : State) : StepOutcome :=
  regResult (s.setRng (rngDraw s.rng imm).2) x (rngDraw s.rng imm).1

/-- FLIP0: clear both flip bits (R304). -/
def execFlip0 (s : State) : StepOutcome :=
  finish (s.setFlip false false)

/-- FLIP1: vertical flip only (R305). -/
def execFlip1 (s : State) : StepOutcome :=
  finish (s.setFlip false true)

/-- FLIP2: horizontal flip only (R306). -/
def execFlip2 (s : State) : StepOutcome :=
  finish (s.setFlip true false)

/-- FLIP3: both flips (R307). -/
def execFlip3 (s : State) : StepOutcome :=
  finish (s.setFlip true true)

/-- SND0: stop sound: a tone of frequency 0 and duration 0 (R312). -/
def execSnd0 (s : State) : StepOutcome :=
  emitResult s (toneCall s 0 0)

/-- SND1: play 500 Hz (R313). -/
def execSnd1 (imm : Word) (s : State) : StepOutcome :=
  emitResult s (toneCall s 500 imm)

/-- SND2: play 1000 Hz (R314). -/
def execSnd2 (imm : Word) (s : State) : StepOutcome :=
  emitResult s (toneCall s 1000 imm)

/-- SND3: play 1500 Hz (R315). -/
def execSnd3 (imm : Word) (s : State) : StepOutcome :=
  emitResult s (toneCall s 1500 imm)

/-- SNP: play the frequency in memory at x[X] (R316). -/
def execSnp (x : Reg) (imm : Word) (s : State) : StepOutcome :=
  orRaise (memRead2 s (s.reg x)) (fun f => emitResult s (toneCall s f imm))

/-- SNG: set the envelope and emit a tone of frequency 0 and duration 0 that carries it; v and t have no effect (R317). -/
def execSng (a d _v _t sus rel : Nibble) (s : State) : StepOutcome :=
  emitResult (s.setEnv a d sus rel) (.playTone Config.toneChannel 0 0 a d sus rel)

/-- PAL0: load the palette from an absolute address (R309). -/
def execPal0 (imm : Word) (s : State) : StepOutcome :=
  orRaise (loadPalette s imm) finish

/-- PAL1: load the palette from a register address (R310). -/
def execPal1 (x : Reg) (s : State) : StepOutcome :=
  orRaise (loadPalette s (s.reg x)) finish

end Sys2Proof.Machine
end

