-- ==== Sys2Proof/Machine/Shift.lean ====
section
/-! DEFINITION. Shifts by 0 to 15 (spec 43 R231 to R236). -/

namespace Sys2Proof.Machine

/-- SHLI: shift left by a constant (R231). -/
def execShli (x : Reg) (n : Nibble) (s : State) : StepOutcome :=
  aluResult s x (aluShl s.flags (s.reg x) n)

/-- SHRI: logical shift right by a constant (R232). -/
def execShri (x : Reg) (n : Nibble) (s : State) : StepOutcome :=
  aluResult s x (aluShr s.flags (s.reg x) n)

/-- SARI: arithmetic shift right by a constant (R233). -/
def execSari (x : Reg) (n : Nibble) (s : State) : StepOutcome :=
  aluResult s x (aluSar s.flags (s.reg x) n)

/-- SHL0: shift left by the low nibble of x[Y] (R234). -/
def execShl0 (x y : Reg) (s : State) : StepOutcome :=
  aluResult s x (aluShl s.flags (s.reg x) (shiftAmount (s.reg y)))

/-- SHR0: logical shift right by the low nibble of x[Y] (R235). -/
def execShr0 (x y : Reg) (s : State) : StepOutcome :=
  aluResult s x (aluShr s.flags (s.reg x) (shiftAmount (s.reg y)))

/-- SAR0: arithmetic shift right by the low nibble of x[Y] (R236). -/
def execSar0 (x y : Reg) (s : State) : StepOutcome :=
  aluResult s x (aluSar s.flags (s.reg x) (shiftAmount (s.reg y)))

end Sys2Proof.Machine
end

