-- ==== Sys2Proof/Machine/Stack.lean ====
section
/-! DEFINITION. Stack instructions (spec 45 R280 to R285). -/

namespace Sys2Proof.Machine

/-- PUSH: push a register (R280). -/
def execPush (x : Reg) (s : State) : StepOutcome :=
  orRaise (push s (s.reg x)) finish

/-- POP: pop into a register (R281). -/
def execPop (x : Reg) (s : State) : StepOutcome :=
  orRaise (pop s) (fun r => regResult r.2 x r.1)

/-- PUSHALL: push r0 to r15, all or nothing (R282). -/
def execPushall (s : State) : StepOutcome :=
  orRaise (pushAll s) finish

/-- POPALL: pop r15 to r0, all or nothing (R283). -/
def execPopall (s : State) : StepOutcome :=
  orRaise (popAll s) finish

/-- PUSHF: push the flags as one word (R284). -/
def execPushf (s : State) : StepOutcome :=
  orRaise (push s (flagsWord s.flags)) finish

/-- POPF: pop the four flags (R285). -/
def execPopf (s : State) : StepOutcome :=
  orRaise (pop s) (fun r => finish (r.2.setFlags (flagsOfWord r.1)))

end Sys2Proof.Machine
end

