-- ==== Sys2Proof/Machine/Dispatch.lean ====
section
/-! DEFINITION. One arm per instruction (spec 30 R117). -/

namespace Sys2Proof.Machine

def exec (i : Instr) (s : State) : Host.Outcome State Fault Refusal :=
  match i with
  | .nop => Sys2Proof.Machine.execNop s
  | .cls => Sys2Proof.Machine.execCls s
  | .vblnk => Sys2Proof.Machine.execVblnk s
  | .bgc n => Sys2Proof.Machine.execBgc n s
  | .spr imm => Sys2Proof.Machine.execSpr imm s
  | .drw0 x y imm => Sys2Proof.Machine.execDrw0 x y imm s
  | .drw1 x y z => Sys2Proof.Machine.execDrw1 x y z s
  | .rnd x imm => Sys2Proof.Machine.execRnd x imm s
  | .flip0 => Sys2Proof.Machine.execFlip0 s
  | .flip1 => Sys2Proof.Machine.execFlip1 s
  | .flip2 => Sys2Proof.Machine.execFlip2 s
  | .flip3 => Sys2Proof.Machine.execFlip3 s
  | .snd0 => Sys2Proof.Machine.execSnd0 s
  | .snd1 imm => Sys2Proof.Machine.execSnd1 imm s
  | .snd2 imm => Sys2Proof.Machine.execSnd2 imm s
  | .snd3 imm => Sys2Proof.Machine.execSnd3 imm s
  | .snp x imm => Sys2Proof.Machine.execSnp x imm s
  | .sng a d v t sus rel => Sys2Proof.Machine.execSng a d v t sus rel s
  | .jmp0 imm => Sys2Proof.Machine.execJmp0 imm s
  | .jmc imm => Sys2Proof.Machine.execJmc imm s
  | .jx c addr => Sys2Proof.Machine.execJx c addr s
  | .jme x y imm => Sys2Proof.Machine.execJme x y imm s
  | .call0 imm => Sys2Proof.Machine.execCall0 imm s
  | .ret => Sys2Proof.Machine.execRet s
  | .jmp1 x => Sys2Proof.Machine.execJmp1 x s
  | .cx c addr => Sys2Proof.Machine.execCx c addr s
  | .call1 x => Sys2Proof.Machine.execCall1 x s
  | .ldi0 x imm => Sys2Proof.Machine.execLdi0 x imm s
  | .ldi1 x imm => Sys2Proof.Machine.execLdi1 x imm s
  | .ldm0 x imm => Sys2Proof.Machine.execLdm0 x imm s
  | .ldm1 x y => Sys2Proof.Machine.execLdm1 x y s
  | .mov x y => Sys2Proof.Machine.execMov x y s
  | .stm0 x imm => Sys2Proof.Machine.execStm0 x imm s
  | .stm1 x y => Sys2Proof.Machine.execStm1 x y s
  | .addi x imm => Sys2Proof.Machine.execAddi x imm s
  | .add0 x y => Sys2Proof.Machine.execAdd0 x y s
  | .add1 x y z => Sys2Proof.Machine.execAdd1 x y z s
  | .subi x imm => Sys2Proof.Machine.execSubi x imm s
  | .sub0 x y => Sys2Proof.Machine.execSub0 x y s
  | .sub1 x y z => Sys2Proof.Machine.execSub1 x y z s
  | .cmpi x imm => Sys2Proof.Machine.execCmpi x imm s
  | .cmp x y => Sys2Proof.Machine.execCmp x y s
  | .andi x imm => Sys2Proof.Machine.execAndi x imm s
  | .and0 x y => Sys2Proof.Machine.execAnd0 x y s
  | .and1 x y z => Sys2Proof.Machine.execAnd1 x y z s
  | .tsti x imm => Sys2Proof.Machine.execTsti x imm s
  | .tst x y => Sys2Proof.Machine.execTst x y s
  | .ori x imm => Sys2Proof.Machine.execOri x imm s
  | .or0 x y => Sys2Proof.Machine.execOr0 x y s
  | .or1 x y z => Sys2Proof.Machine.execOr1 x y z s
  | .xori x imm => Sys2Proof.Machine.execXori x imm s
  | .xor0 x y => Sys2Proof.Machine.execXor0 x y s
  | .xor1 x y z => Sys2Proof.Machine.execXor1 x y z s
  | .muli x imm => Sys2Proof.Machine.execMuli x imm s
  | .mul0 x y => Sys2Proof.Machine.execMul0 x y s
  | .mul1 x y z => Sys2Proof.Machine.execMul1 x y z s
  | .divi x imm => Sys2Proof.Machine.execDivi x imm s
  | .div0 x y => Sys2Proof.Machine.execDiv0 x y s
  | .div1 x y z => Sys2Proof.Machine.execDiv1 x y z s
  | .modi x imm => Sys2Proof.Machine.execModi x imm s
  | .mod0 x y => Sys2Proof.Machine.execMod0 x y s
  | .mod1 x y z => Sys2Proof.Machine.execMod1 x y z s
  | .remi x imm => Sys2Proof.Machine.execRemi x imm s
  | .rem0 x y => Sys2Proof.Machine.execRem0 x y s
  | .rem1 x y z => Sys2Proof.Machine.execRem1 x y z s
  | .shli x n => Sys2Proof.Machine.execShli x n s
  | .shri x n => Sys2Proof.Machine.execShri x n s
  | .sari x n => Sys2Proof.Machine.execSari x n s
  | .shl0 x y => Sys2Proof.Machine.execShl0 x y s
  | .shr0 x y => Sys2Proof.Machine.execShr0 x y s
  | .sar0 x y => Sys2Proof.Machine.execSar0 x y s
  | .push x => Sys2Proof.Machine.execPush x s
  | .pop x => Sys2Proof.Machine.execPop x s
  | .pushall => Sys2Proof.Machine.execPushall s
  | .popall => Sys2Proof.Machine.execPopall s
  | .pushf => Sys2Proof.Machine.execPushf s
  | .popf => Sys2Proof.Machine.execPopf s
  | .pal0 imm => Sys2Proof.Machine.execPal0 imm s
  | .pal1 x => Sys2Proof.Machine.execPal1 x s
  | .noti x imm => Sys2Proof.Machine.execNoti x imm s
  | .not0 x => Sys2Proof.Machine.execNot0 x s
  | .not1 x y => Sys2Proof.Machine.execNot1 x y s
  | .negi x imm => Sys2Proof.Machine.execNegi x imm s
  | .neg0 x => Sys2Proof.Machine.execNeg0 x s
  | .neg1 x y => Sys2Proof.Machine.execNeg1 x y s

end Sys2Proof.Machine
end

