-- ==== Sys2Proof/Machine/Step.lean ====
section
/-! DEFINITION. One step: fetch, decode, execute (spec 60 R401), and the placing of an instruction
where the next step fetches it. -/

namespace Sys2Proof.Machine

/-- `step()` (60 R401). The faults come in the order fetch, decode, execute (60 R409). `next` is the
committed state, `fault` leaves the state as it was before the step (60 R402; log 5). -/
def step (s : State) : Host.Outcome State Fault Refusal :=
  match fetch s with
  | .error f => raise f
  | .ok w =>
    match decodeWord w with
    | .error (.unknownOpcode b) => raise (.unknownOpcode b)
    | .ok i => exec i s.beginStep

/-- s with the instruction word w (its low nbits bits) stored big-endian at pc, where the next step
fetches. A pc whose word would leave memory, which no fetch can use, is set to the entry point 0;
log 7. -/
def State.withFetchWord (s : State) (nbits w : Nat) : State :=
  let p := fetchPlace s.pc
  (s.setPc p).setMem (writeQuad s.mem p.toNat (BitVec.ofNat 32 (w % 2 ^ nbits)))

end Sys2Proof.Machine
end

