-- ==== Sys2Proof/Machine/HostSurface.lean ====
section
/-! DEFINITION. The host's surface (spec 70 R440, R443, R445): the only ways the host reaches the
core. All of it runs between steps (70 R446), on the core's own state: the outcome of a step and its
calls are returned to the host and kept in no state (10 R48, 60 R418). -/

namespace Sys2Proof.Machine

/-- What the host's `step()` returns (60 R401, 70 R445). -/
inductive StepReturn where
  | ok
  | yield
  | fault (f : Fault)
deriving DecidableEq, Repr

/-- A step's outcome as the host's `step()` returns it. -/
def StepResult.returned : StepResult → StepReturn
  | .ok => .ok
  | .yield => .yield

/-- `new(memory_size)`: the reset state; another size is other hardware and is refused (70 R440). -/
def hostNew (size : Nat) : Except Refusal CoreState :=
  if size = Config.memSize then .ok State.reset.toCoreState else .error (.badMemorySize size)

/-- Bytes written at rising addresses from a. -/
def writeBytes : Memory → Nat → List Byte → Memory
  | m, _, [] => m
  | m, a, b :: bs => writeBytes (writeByte m a b) (a + 1) bs

/-- `load(address, bytes)`: none when the bytes do not fit, and then nothing is written (70 R443;
log 9). -/
def hostLoad (c : CoreState) (address : Nat) (bytes : List Byte) : Option CoreState :=
  if Config.memSize < address + bytes.length then none
  else some { c with mem := writeBytes c.mem address bytes }

/-- `step()`: the core's state after it, what it returns, and the calls it delivers, in order (60 R401,
R418). The outcome is returned and not kept (10 R48). After a fault the state is the one before the
step and nothing is delivered (60 R402; log 5). -/
def hostStep (c : CoreState) : Except Refusal (CoreState × StepReturn × List Call) :=
  match step c.begin with
  | .next t => .ok (t.toCoreState, t.result.returned, t.calls)
  | .fault f => .ok (c, .fault f, [])
  | .refused r => .error r

/-- `register(index)`; an index above 15 is refused (70 R445). -/
def hostRegister (c : CoreState) (index : Nat) : Except Refusal Word :=
  if h : index < 16 then .ok (c.regs[index]) else .error (.badRegisterIndex index)

/-- `set_register(index, value)`; an index above 15 is refused (70 R445). -/
def hostSetRegister (c : CoreState) (index : Nat) (value : Word) : Except Refusal CoreState :=
  if h : index < 16 then .ok { c with regs := c.regs.set index value }
  else .error (.badRegisterIndex index)

/-- `flags()` (70 R445). -/
def hostFlags (c : CoreState) : Flags := c.flags

/-- `pc()` (70 R445). -/
def hostPc (c : CoreState) : Word := c.pc

/-- The calls a step from s to t delivered, in order (60 R418). -/
def deliveredBy (s t : State) : List Call := t.calls.drop s.calls.length

end Sys2Proof.Machine
end

