-- ==== Sys2Proof/Safety.lean ====
section
/-! DEFINITION. The terms the claims use: the invariant of the core, what an instruction keeps, and
the spec's ALU, decoding and condition tables written in Nat and Int arithmetic, apart from the
definitions of the machine. -/

namespace Sys2Proof.Machine

/-! ### The invariant -/

/-- What holds at reset and after every step: memory in its canonical form (log 6), bgc in 0 to 15
(10 R41), sp even (93 I13). -/
def StateInv (s : State) : Prop :=
  Memory.wf s.mem ∧ s.bgc.toNat ≤ 15 ∧ s.sp.toNat % 2 = 0

/-! ### Frames -/

/-- Every register but those listed is unchanged. -/
def KeepsRegs (ds : List Reg) (s t : State) : Prop := ∀ x, x ∉ ds → t.reg x = s.reg x

/-- Every byte of memory is unchanged. -/
def KeepsMem (s t : State) : Prop := ∀ a, readByte t.mem a = readByte s.mem a

/-- Every byte outside the n bytes from p is unchanged. -/
def KeepsMemOutside (p n : Nat) (s t : State) : Prop :=
  ∀ a, (a < p ∨ p + n ≤ a) → readByte t.mem a = readByte s.mem a

/-- The peripheral-control registers of 10 R41 are unchanged. -/
def KeepsSprite (s t : State) : Prop :=
  t.bgc = s.bgc ∧ t.sprW = s.sprW ∧ t.sprH = s.sprH ∧ t.hflip = s.hflip ∧ t.vflip = s.vflip

/-- The envelope registers of 10 R42 are unchanged. -/
def KeepsEnv (s t : State) : Prop :=
  t.envA = s.envA ∧ t.envD = s.envD ∧ t.envS = s.envS ∧ t.envR = s.envR

/-- No call is delivered and the outcome stays the one the step began with. -/
def KeepsOutput (s t : State) : Prop := t.calls = s.calls ∧ t.result = s.result

/-- Exactly the calls cs are delivered and the outcome stays the one the step began with. -/
def Emits (cs : List Call) (s t : State) : Prop := t.calls = s.calls ++ cs ∧ t.result = s.result

/-- Everything on the peripheral side is unchanged: its registers, rng, the output. -/
def KeepsRest (s t : State) : Prop :=
  KeepsSprite s t ∧ KeepsEnv s t ∧ t.rng = s.rng ∧ KeepsOutput s t

/-- Nothing of the general registers, sp, flags and memory is changed, and pc goes to next_pc. -/
def KeepsCpu (s t : State) : Prop :=
  KeepsRegs [] s t ∧ t.sp = s.sp ∧ t.flags = s.flags ∧ KeepsMem s t ∧ t.pc = s.pc + 4

/-- Register d becomes r, the flags become f, pc becomes next_pc; all else is unchanged. -/
def WritesRegFlags (d : Reg) (r : Word) (f : Flags) (s t : State) : Prop :=
  t.reg d = r ∧ t.flags = f ∧ t.pc = s.pc + 4 ∧ KeepsRegs [d] s t ∧ t.sp = s.sp ∧ KeepsMem s t ∧
    KeepsRest s t

/-- The flags become f, pc becomes next_pc; all else is unchanged. -/
def WritesFlags (f : Flags) (s t : State) : Prop :=
  t.flags = f ∧ t.pc = s.pc + 4 ∧ KeepsRegs [] s t ∧ t.sp = s.sp ∧ KeepsMem s t ∧ KeepsRest s t

/-- pc becomes target; all else is unchanged. -/
def OnlyPc (target : Word) (s t : State) : Prop :=
  t.pc = target ∧ KeepsRegs [] s t ∧ t.sp = s.sp ∧ t.flags = s.flags ∧ KeepsMem s t ∧ KeepsRest s t

/-- Memory holds the word v at p, high byte first (20 R71). -/
def HoldsWord (m : Memory) (p : Nat) (v : Word) : Prop :=
  (readByte m p).toNat = v.toNat / 256 ∧ (readByte m (p + 1)).toNat = v.toNat % 256

/-- One word v is pushed: it lies at S(sp) - 2, sp is S(sp) - 2 modulo 2^16, and every other byte of
memory is unchanged (20 R80). -/
def PushedWord (v : Word) (s t : State) : Prop :=
  HoldsWord t.mem (stackPos s.sp - 2) v ∧ KeepsMemOutside (stackPos s.sp - 2) 2 s t ∧
    t.sp.toNat = (stackPos s.sp - 2) % 65536

/-- One word v is popped: it lies at S(sp), and sp is S(sp) + 2 modulo 2^16 (20 R81). -/
def PoppedWord (v : Word) (s t : State) : Prop :=
  HoldsWord s.mem (stackPos s.sp) v ∧ KeepsMem s t ∧ t.sp.toNat = (stackPos s.sp + 2) % 65536

/-! ### The ALU rules in arithmetic -/

/-- Bit k of a word, as 0 or 1. -/
def bitAt (v : Word) (k : Nat) : Nat := v.toNat / 2 ^ k % 2

/-- Zero and Negative from a result (41 R160). -/
def ZNSpec (r : Word) (f : Flags) : Prop :=
  (f.z = true ↔ r.toNat = 0) ∧ (f.n = true ↔ bitAt r 15 = 1)

/-- `Add(a, b)` (41 R161). -/
def AddSpec (a b r : Word) (f : Flags) : Prop :=
  r.toNat = (a.toNat + b.toNat) % 65536 ∧ (f.c = true ↔ 0xFFFF < a.toNat + b.toNat) ∧
    (f.o = true ↔ bitAt a 15 = bitAt b 15 ∧ bitAt r 15 ≠ bitAt a 15) ∧ ZNSpec r f

/-- `Sub(a, b)` (41 R162). -/
def SubSpec (a b r : Word) (f : Flags) : Prop :=
  (r.toNat : Int) = ((a.toNat : Int) - b.toNat) % 65536 ∧ (f.c = true ↔ a.toNat < b.toNat) ∧
    (f.o = true ↔ bitAt a 15 ≠ bitAt b 15 ∧ bitAt r 15 ≠ bitAt a 15) ∧ ZNSpec r f

/-- `Mul(a, b)` (41 R171). -/
def MulSpec (a b r : Word) (f : Flags) : Prop :=
  r.toNat = a.toNat * b.toNat % 65536 ∧ (f.c = true ↔ 0xFFFF < a.toNat * b.toNat) ∧
    f.o = false ∧ ZNSpec r f

/-- `Div(a, b)` for b not 0: the quotient truncated toward zero, the remainder's sign the
dividend's (41 R175). -/
def DivSpec (a b r : Word) (f : Flags) : Prop :=
  ∃ q rem : Int, a.toInt = b.toInt * q + rem ∧ rem.natAbs < b.toInt.natAbs ∧
    (rem ≠ 0 → (rem < 0 ↔ a.toInt < 0)) ∧ (r.toNat : Int) = q % 65536 ∧
    (f.c = true ↔ rem ≠ 0) ∧ f.o = false ∧ ZNSpec r f

/-- `Rem(a, b)` for b not 0, from flags with carry c: the remainder has the dividend's sign and C is
kept (41 R175). -/
def RemSpec (c : Bool) (a b r : Word) (f : Flags) : Prop :=
  ∃ q : Int, a.toInt = b.toInt * q + r.toInt ∧ r.toInt.natAbs < b.toInt.natAbs ∧
    (r.toInt ≠ 0 → (r.toInt < 0 ↔ a.toInt < 0)) ∧ f.c = c ∧ f.o = false ∧ ZNSpec r f

/-- `Mod(a, b)` for b not 0, from flags with carry c: the modulo has the divisor's sign and C is
kept (41 R175). -/
def ModSpec (c : Bool) (a b r : Word) (f : Flags) : Prop :=
  ∃ q : Int, a.toInt = b.toInt * q + r.toInt ∧ r.toInt.natAbs < b.toInt.natAbs ∧
    (r.toInt ≠ 0 → (r.toInt < 0 ↔ b.toInt < 0)) ∧ f.c = c ∧ f.o = false ∧ ZNSpec r f

/-- The flags of a logic result r, from flags with carry c (42 R200). -/
def LogicSpec (c : Bool) (r : Word) (f : Flags) : Prop := f.c = c ∧ f.o = false ∧ ZNSpec r f

/-- `Shift(L, a, n)` (43 R230). -/
def ShlSpec (a : Word) (n : Nat) (r : Word) (f : Flags) : Prop :=
  r.toNat = a.toNat * 2 ^ n % 65536 ∧ (f.c = true ↔ n ≠ 0 ∧ bitAt a (16 - n) = 1) ∧
    f.o = false ∧ ZNSpec r f

/-- `Shift(R, a, n)` (43 R230). -/
def ShrSpec (a : Word) (n : Nat) (r : Word) (f : Flags) : Prop :=
  r.toNat = a.toNat / 2 ^ n ∧ (f.c = true ↔ n ≠ 0 ∧ bitAt a (n - 1) = 1) ∧
    f.o = false ∧ ZNSpec r f

/-- `Shift(A, a, n)`: floor division by 2^n (43 R230). -/
def SarSpec (a : Word) (n : Nat) (r : Word) (f : Flags) : Prop :=
  r.toInt = Int.fdiv a.toInt (2 ^ n) ∧ (f.c = true ↔ n ≠ 0 ∧ bitAt a (n - 1) = 1) ∧
    f.o = false ∧ ZNSpec r f

/-! ### The condition table -/

/-- The conditions in the order of their codes (44 R250). -/
def condTable : List Cond := [.z, .nz, .n, .nn, .p, .o, .no, .a, .ae, .b, .be, .g, .ge, .l, .le, .al]

/-- The "holds when" column of 44 R250. -/
def CondSpec (f : Flags) : Cond → Prop
  | .z => f.z = true
  | .nz => f.z = false
  | .n => f.n = true
  | .nn => f.n = false
  | .p => f.n = false ∧ f.z = false
  | .o => f.o = true
  | .no => f.o = false
  | .a => f.c = false ∧ f.z = false
  | .ae => f.c = false
  | .b => f.c = true
  | .be => f.c = true ∨ f.z = true
  | .g => f.o = f.n ∧ f.z = false
  | .ge => f.o = f.n
  | .l => f.o ≠ f.n
  | .le => f.o ≠ f.n ∨ f.z = true
  | .al => True

/-! ### The formats in arithmetic -/

/-- `w[hi:lo]` (00 R8). -/
def bitsAt (w : InstrWord) (hi lo : Nat) : Nat := w.toNat / 2 ^ lo % 2 ^ (hi + 1 - lo)

/-- A 4-bit register field (00 R14). -/
def regAt (w : InstrWord) (hi lo : Nat) : Reg := Fin.ofNat 16 (bitsAt w hi lo)

/-- A 4-bit constant field. -/
def nibAt (w : InstrWord) (hi lo : Nat) : Nibble := BitVec.ofNat 4 (bitsAt w hi lo)

/-- The 16-bit field `w[15:0]` (30 R116). -/
def immAt (w : InstrWord) : Word := BitVec.ofNat 16 (bitsAt w 15 0)

/-- Every word with opcode byte op decodes to the operation that f makes of the word's fields. -/
def Decodes (op : Nat) (f : InstrWord → Instr) : Prop :=
  ∀ w : InstrWord, bitsAt w 31 24 = op → decodeWord w = .ok (f w)

/-- Opcode op is i in format N (30 R103). -/
def DecodesN (op : Nat) (i : Instr) : Prop := Decodes op fun _ => i

/-- Opcode op is f in format A (30 R104). -/
def DecodesA (op : Nat) (f : Word → Instr) : Prop := Decodes op fun w => f (immAt w)

/-- Opcode op is f in format RI (30 R105). -/
def DecodesRI (op : Nat) (f : Reg → Word → Instr) : Prop :=
  Decodes op fun w => f (regAt w 19 16) (immAt w)

/-- Opcode op is f in format CI (30 R106). -/
def DecodesCI (op : Nat) (f : Cond → Word → Instr) : Prop :=
  Decodes op fun w => f (condTable.getD (bitsAt w 19 16) .al) (immAt w)

/-- Opcode op is f in format RN (30 R107). -/
def DecodesRN (op : Nat) (f : Reg → Nibble → Instr) : Prop :=
  Decodes op fun w => f (regAt w 19 16) (nibAt w 3 0)

/-- Opcode op is f in format K (30 R108). -/
def DecodesK (op : Nat) (f : Nibble → Instr) : Prop := Decodes op fun w => f (nibAt w 3 0)

/-- Opcode op is f in format R (30 R109). -/
def DecodesR (op : Nat) (f : Reg → Instr) : Prop := Decodes op fun w => f (regAt w 3 0)

/-- Opcode op is f, of X and Y, in format RR (30 R110). -/
def DecodesRR (op : Nat) (f : Reg → Reg → Instr) : Prop :=
  Decodes op fun w => f (regAt w 3 0) (regAt w 15 12)

/-- Opcode op is f, of X, Y and Z, in format RRR (30 R111). -/
def DecodesRRR (op : Nat) (f : Reg → Reg → Reg → Instr) : Prop :=
  Decodes op fun w => f (regAt w 3 0) (regAt w 15 12) (regAt w 19 16)

/-- Opcode op is f, of X, Y and the immediate, in format RRA (30 R112). -/
def DecodesRRA (op : Nat) (f : Reg → Reg → Word → Instr) : Prop :=
  Decodes op fun w => f (regAt w 19 16) (regAt w 23 20) (immAt w)

/-- Opcode op is f, of a, d, v, t, s, r, in format S (30 R113). -/
def DecodesS (op : Nat) (f : Nibble → Nibble → Nibble → Nibble → Nibble → Nibble → Instr) : Prop :=
  Decodes op fun w =>
    f (nibAt w 23 20) (nibAt w 19 16) (nibAt w 15 12) (nibAt w 11 8) (nibAt w 7 4) (nibAt w 3 0)

/-- Opcode op with w[1:0] = n is i in format F (30 R114). -/
def DecodesF (op n : Nat) (i : Instr) : Prop :=
  ∀ w : InstrWord, bitsAt w 31 24 = op → bitsAt w 1 0 = n → decodeWord w = .ok i

/-- The 174 unassigned opcode bytes, range by range (30 R118). -/
def Unassigned (b : Nat) : Prop :=
  b = 0x0F ∨ (0x19 ≤ b ∧ b ≤ 0x1F) ∨ (0x25 ≤ b ∧ b ≤ 0x2F) ∨ (0x32 ≤ b ∧ b ≤ 0x3F) ∨
  (0x43 ≤ b ∧ b ≤ 0x4F) ∨ (0x55 ≤ b ∧ b ≤ 0x5F) ∨ (0x65 ≤ b ∧ b ≤ 0x6F) ∨ (0x73 ≤ b ∧ b ≤ 0x7F) ∨
  (0x83 ≤ b ∧ b ≤ 0x8F) ∨ (0x93 ≤ b ∧ b ≤ 0x9F) ∨ (0xA9 ≤ b ∧ b ≤ 0xAF) ∨ (0xB6 ≤ b ∧ b ≤ 0xBF) ∨
  (0xC6 ≤ b ∧ b ≤ 0xCF) ∨ (0xD2 ≤ b ∧ b ≤ 0xDF) ∨ (0xE6 ≤ b ∧ b ≤ 0xFF)

/-! ### Classes of instructions -/

/-- A data word access: LDM0, LDM1, STM0, STM1, SNP (60 R408). -/
def accessesWord : Instr → Bool
  | .ldm0 _ _ | .ldm1 _ _ | .stm0 _ _ | .stm1 _ _ | .snp _ _ => true
  | _ => false

/-- A palette table access: PAL0, PAL1 (60 R408). -/
def accessesPalette : Instr → Bool
  | .pal0 _ | .pal1 _ => true
  | _ => false

/-- DIV, MOD and REM in every form (60 R408). -/
def divides : Instr → Bool
  | .divi _ _ | .div0 _ _ | .div1 _ _ _ | .modi _ _ | .mod0 _ _ | .mod1 _ _ _
  | .remi _ _ | .rem0 _ _ | .rem1 _ _ _ => true
  | _ => false

/-- PUSH, PUSHALL, PUSHF, CALL0, CALL1, CX (60 R408). -/
def pushes : Instr → Bool
  | .push _ | .pushall | .pushf | .call0 _ | .call1 _ | .cx _ _ => true
  | _ => false

/-- POP, POPALL, POPF, RET (60 R408). -/
def pops : Instr → Bool
  | .pop _ | .popall | .popf | .ret => true
  | _ => false

/-- The instructions that write all four flags (10 R39). -/
def writesAllFlags : Instr → Bool
  | .addi _ _ | .add0 _ _ | .add1 _ _ _ | .subi _ _ | .sub0 _ _ | .sub1 _ _ _ | .cmpi _ _ | .cmp _ _
  | .muli _ _ | .mul0 _ _ | .mul1 _ _ _ | .divi _ _ | .div0 _ _ | .div1 _ _ _
  | .shli _ _ | .shri _ _ | .sari _ _ | .shl0 _ _ | .shr0 _ _ | .sar0 _ _ | .popf => true
  | _ => false

/-- The instructions that write Z and N, clear O and keep C: MOD, REM and the logic instructions
(10 R39). -/
def keepsCarry : Instr → Bool
  | .modi _ _ | .mod0 _ _ | .mod1 _ _ _ | .remi _ _ | .rem0 _ _ | .rem1 _ _ _
  | .andi _ _ | .and0 _ _ | .and1 _ _ _ | .tsti _ _ | .tst _ _ | .ori _ _ | .or0 _ _ | .or1 _ _ _
  | .xori _ _ | .xor0 _ _ | .xor1 _ _ _ | .noti _ _ | .not0 _ | .not1 _ _
  | .negi _ _ | .neg0 _ | .neg1 _ _ => true
  | _ => false

/-- The instructions that write O with 0: MUL, DIV, MOD, REM, logic and shifts (10 R39). -/
def clearsOverflow : Instr → Bool
  | .muli _ _ | .mul0 _ _ | .mul1 _ _ _ | .divi _ _ | .div0 _ _ | .div1 _ _ _
  | .shli _ _ | .shri _ _ | .sari _ _ | .shl0 _ _ | .shr0 _ _ | .sar0 _ _ => true
  | i => keepsCarry i

/-- The instructions that read a flag: JMC, JX, CX, PUSHF (10 R39). -/
def readsFlags : Instr → Bool
  | .jmc _ | .jx _ _ | .cx _ _ | .pushf => true
  | _ => false

/-- The instructions that make a Peripheral Interface call (60 R417). -/
def makesCall : Instr → Bool
  | .drw0 _ _ _ | .drw1 _ _ _ | .bgc _ | .pal0 _ | .pal1 _ | .cls | .snd0 | .snd1 _ | .snd2 _
  | .snd3 _ | .snp _ _ | .sng _ _ _ _ _ _ | .vblnk => true
  | _ => false

/-- The instructions that write a register of 10 R41: BGC, SPR, FLIP0 to FLIP3. -/
def writesSprite : Instr → Bool
  | .bgc _ | .spr _ | .flip0 | .flip1 | .flip2 | .flip3 => true
  | _ => false

/-- SNG, the one instruction that writes the envelope (10 R42). -/
def writesEnv : Instr → Bool
  | .sng _ _ _ _ _ _ => true
  | _ => false

/-- RND, the one instruction that reads and writes rng (10 R45). -/
def usesRng : Instr → Bool
  | .rnd _ _ => true
  | _ => false

/-! ### Outcomes -/

/-- An outcome with its next state changed by g. -/
def mapNext (g : State → State) : StepOutcome → StepOutcome
  | .next t => .next (g t)
  | .fault f => .fault f
  | .refused r => .refused r

end Sys2Proof.Machine
end

