-- ==== Sys2Proof/Certificates/Slice0/Obligations.lean ====
section
/-! DEFINITION. The statements about the core. A statement about an instruction says how its words
decode, that `exec` answers a next state and which, what it leaves unchanged, and where it faults. -/

open Sys2Proof Sys2Proof.Machine

/-! ### Encoding -/

/-- 30 R119: decode after encode gives the operation back, every field at every value; encode puts each
field where decode reads it and writes every ignored bit 0; and a word with an unassigned top byte
fails with that byte, whatever its operand bits. -/
def Obligations.DecodeInvertsEncode : Prop :=
  (∀ i : Instr, decodeWord (encode i) = .ok i) ∧
  (∀ (w : InstrWord) (i : Instr), decodeWord w = .ok i → encode i = w &&& ~~~ i.format.ignored) ∧
  (∀ i : Instr, encode i &&& i.format.ignored = 0) ∧
  ∀ w : InstrWord, Unassigned (bitsAt w 31 24) →
    decodeWord w = .error (.unknownOpcode (BitVec.ofNat 8 (bitsAt w 31 24)))

/-- 30 R115: ignored bits do not affect decoding, an encoder writes them 0, encode after decode
gives a word back exactly when its ignored bits are 0, and no operand bits of an assigned opcode
are illegal. -/
def Obligations.IgnoredBitsDoNotAffectDecoding : Prop :=
  (∀ (w v : InstrWord) (i : Instr), decodeWord w = .ok i →
    w &&& ~~~ i.format.ignored = v &&& ~~~ i.format.ignored → decodeWord v = .ok i) ∧
  (∀ i : Instr, encode i &&& i.format.ignored = 0) ∧
  (∀ i : Instr, decodeWord (encode i) = .ok i) ∧
  (∀ (w : InstrWord) (i : Instr), decodeWord w = .ok i →
    (encode i = w ↔ w &&& i.format.ignored = 0)) ∧
  ∀ w : InstrWord, ¬ Unassigned (bitsAt w 31 24) → ∃ i, decodeWord w = .ok i

/-- One word of every format, written out from its diagram (30 R103 to R114), decodes to its
operation. -/
def Obligations.SampleWordsDecode : Prop :=
  decodeWord 0x15ABCDEF = .ok .ret ∧ decodeWord 0x10FF1234 = .ok (.jmp0 0x1234) ∧
  decodeWord 0x20F3BEEF = .ok (.ldi0 3 0xBEEF) ∧ decodeWord 0x12AD0040 = .ok (.jx .l 0x0040) ∧
  decodeWord 0xB242FFF7 = .ok (.sari 2 7) ∧ decodeWord 0x03123459 = .ok (.bgc 9) ∧
  decodeWord 0xC011223C = .ok (.push 12) ∧ decodeWord 0x2455EAB1 = .ok (.mov 1 14) ∧
  decodeWord 0x52932FF1 = .ok (.sub1 1 2 3) ∧ decodeWord 0x13540100 = .ok (.jme 4 5 0x0100) ∧
  decodeWord 0x0E123456 = .ok (.sng 1 2 3 4 5 6) ∧ decodeWord 0x08FFFFFF = .ok .flip3

/-! ### Data movement -/

/-- 40 R140, R141, R144: LDI0, LDI1 and MOV write their register and pc and nothing else. -/
def Obligations.RegisterMovesWriteOneRegister : Prop :=
  DecodesRI 0x20 .ldi0 ∧ DecodesRI 0x21 .ldi1 ∧ DecodesRR 0x24 .mov ∧
  ∀ (s : State) (x y : Reg) (imm : Word),
    (∃ t, exec (.ldi0 x imm) s = .next t ∧ WritesRegFlags x imm s.flags s t) ∧
    (∃ t, exec (.ldi1 x imm) s = .next t ∧ WritesRegFlags x imm s.flags s t) ∧
    ∃ t, exec (.mov x y) s = .next t ∧ WritesRegFlags x (s.reg y) s.flags s t

/-- 40 R142, R143: LDM0 and LDM1 load the big-endian word at the address, or fault at 0xFFFF. -/
def Obligations.LoadsReadTheBigEndianWord : Prop :=
  DecodesRI 0x22 .ldm0 ∧ DecodesRR 0x23 .ldm1 ∧
  ∀ (s : State) (x y : Reg) (imm : Word),
    (imm ≠ 0xFFFF → ∃ t v, exec (.ldm0 x imm) s = .next t ∧ HoldsWord s.mem imm.toNat v ∧
      WritesRegFlags x v s.flags s t) ∧
    (imm = 0xFFFF → exec (.ldm0 x imm) s = .fault (.outOfBounds imm 2)) ∧
    (s.reg y ≠ 0xFFFF → ∃ t v, exec (.ldm1 x y) s = .next t ∧ HoldsWord s.mem (s.reg y).toNat v ∧
      WritesRegFlags x v s.flags s t) ∧
    (s.reg y = 0xFFFF → exec (.ldm1 x y) s = .fault (.outOfBounds (s.reg y) 2))

/-- 40 R145, R146: STM0 and STM1 store the register at the address, high byte first, and change no
other byte and no register but pc, or fault at 0xFFFF. -/
def Obligations.StoresWriteTheBigEndianWord : Prop :=
  DecodesRI 0x30 .stm0 ∧ DecodesRR 0x31 .stm1 ∧
  ∀ (s : State) (x y : Reg) (imm : Word),
    (imm ≠ 0xFFFF → ∃ t, exec (.stm0 x imm) s = .next t ∧ HoldsWord t.mem imm.toNat (s.reg x) ∧
      KeepsMemOutside imm.toNat 2 s t ∧ KeepsRegs [] s t ∧ t.sp = s.sp ∧ t.flags = s.flags ∧
      t.pc = s.pc + 4 ∧ KeepsRest s t) ∧
    (imm = 0xFFFF → exec (.stm0 x imm) s = .fault (.outOfBounds imm 2)) ∧
    (s.reg y ≠ 0xFFFF → ∃ t, exec (.stm1 x y) s = .next t ∧
      HoldsWord t.mem (s.reg y).toNat (s.reg x) ∧ KeepsMemOutside (s.reg y).toNat 2 s t ∧
      KeepsRegs [] s t ∧ t.sp = s.sp ∧ t.flags = s.flags ∧ t.pc = s.pc + 4 ∧ KeepsRest s t) ∧
    (s.reg y = 0xFFFF → exec (.stm1 x y) s = .fault (.outOfBounds (s.reg y) 2))

/-! ### Arithmetic -/

/-- 41 R161, R163 to R165: ADDI, ADD0, ADD1. -/
def Obligations.AdditionResultAndFlags : Prop :=
  DecodesRI 0x40 .addi ∧ DecodesRR 0x41 .add0 ∧ DecodesRRR 0x42 .add1 ∧
  ∀ (s : State) (x y z : Reg) (imm : Word),
    (∃ t r f, exec (.addi x imm) s = .next t ∧ WritesRegFlags x r f s t ∧
      AddSpec (s.reg x) imm r f) ∧
    (∃ t r f, exec (.add0 x y) s = .next t ∧ WritesRegFlags x r f s t ∧
      AddSpec (s.reg x) (s.reg y) r f) ∧
    ∃ t r f, exec (.add1 x y z) s = .next t ∧ WritesRegFlags z r f s t ∧
      AddSpec (s.reg x) (s.reg y) r f

/-- 41 R162, R166 to R168: SUBI, SUB0, SUB1. -/
def Obligations.SubtractionResultAndFlags : Prop :=
  DecodesRI 0x50 .subi ∧ DecodesRR 0x51 .sub0 ∧ DecodesRRR 0x52 .sub1 ∧
  ∀ (s : State) (x y z : Reg) (imm : Word),
    (∃ t r f, exec (.subi x imm) s = .next t ∧ WritesRegFlags x r f s t ∧
      SubSpec (s.reg x) imm r f) ∧
    (∃ t r f, exec (.sub0 x y) s = .next t ∧ WritesRegFlags x r f s t ∧
      SubSpec (s.reg x) (s.reg y) r f) ∧
    ∃ t r f, exec (.sub1 x y z) s = .next t ∧ WritesRegFlags z r f s t ∧
      SubSpec (s.reg x) (s.reg y) r f

/-- 41 R169, R170: CMPI and CMP write the flags of the subtraction and no register. -/
def Obligations.CompareWritesOnlyFlags : Prop :=
  DecodesRI 0x53 .cmpi ∧ DecodesRR 0x54 .cmp ∧
  ∀ (s : State) (x y : Reg) (imm : Word),
    (∃ t r f, exec (.cmpi x imm) s = .next t ∧ WritesFlags f s t ∧ SubSpec (s.reg x) imm r f) ∧
    ∃ t r f, exec (.cmp x y) s = .next t ∧ WritesFlags f s t ∧ SubSpec (s.reg x) (s.reg y) r f

/-- 41 R161, R162, R171, R185: in every form of ADD and SUB, O is 1 exactly when the signed reading of the result is not
the exact signed sum or difference, and C exactly when the unsigned reading is not the exact unsigned
one; in every form of MUL, O is 0 and C is 1 exactly when the result is not the exact unsigned
product. -/
def Obligations.CarryAndOverflowReportTheOutcome : Prop :=
  ∀ (s : State) (x y z : Reg) (imm : Word),
    (∀ p ∈ [(Instr.addi x imm, x, imm), (.add0 x y, x, s.reg y), (.add1 x y z, z, s.reg y)],
      ∃ t, exec p.1 s = .next t ∧
        (t.flags.o = true ↔ (t.reg p.2.1).toInt ≠ (s.reg x).toInt + p.2.2.toInt) ∧
        (t.flags.c = true ↔ (t.reg p.2.1).toNat ≠ (s.reg x).toNat + p.2.2.toNat)) ∧
    (∀ p ∈ [(Instr.subi x imm, x, imm), (.sub0 x y, x, s.reg y), (.sub1 x y z, z, s.reg y)],
      ∃ t, exec p.1 s = .next t ∧
        (t.flags.o = true ↔ (t.reg p.2.1).toInt ≠ (s.reg x).toInt - p.2.2.toInt) ∧
        (t.flags.c = true ↔ (t.reg p.2.1).toNat + p.2.2.toNat ≠ (s.reg x).toNat)) ∧
    ∀ p ∈ [(Instr.muli x imm, x, imm), (.mul0 x y, x, s.reg y), (.mul1 x y z, z, s.reg y)],
      ∃ t, exec p.1 s = .next t ∧ t.flags.o = false ∧
        (t.flags.c = true ↔ (t.reg p.2.1).toNat ≠ (s.reg x).toNat * p.2.2.toNat)

/-- 41 R171 to R174: MULI, MUL0, MUL1. -/
def Obligations.MultiplicationResultAndFlags : Prop :=
  DecodesRI 0x90 .muli ∧ DecodesRR 0x91 .mul0 ∧ DecodesRRR 0x92 .mul1 ∧
  ∀ (s : State) (x y z : Reg) (imm : Word),
    (∃ t r f, exec (.muli x imm) s = .next t ∧ WritesRegFlags x r f s t ∧
      MulSpec (s.reg x) imm r f) ∧
    (∃ t r f, exec (.mul0 x y) s = .next t ∧ WritesRegFlags x r f s t ∧
      MulSpec (s.reg x) (s.reg y) r f) ∧
    ∃ t r f, exec (.mul1 x y z) s = .next t ∧ WritesRegFlags z r f s t ∧
      MulSpec (s.reg x) (s.reg y) r f

/-- 41 R176 to R178: DIVI, DIV0, DIV1 give the truncating signed quotient, or fault on a zero
divisor. -/
def Obligations.DivisionResultAndFlags : Prop :=
  DecodesRI 0xA0 .divi ∧ DecodesRR 0xA1 .div0 ∧ DecodesRRR 0xA2 .div1 ∧
  ∀ (s : State) (x y z : Reg) (imm : Word),
    (imm ≠ 0 → ∃ t r f, exec (.divi x imm) s = .next t ∧ WritesRegFlags x r f s t ∧
      DivSpec (s.reg x) imm r f) ∧
    (imm = 0 → exec (.divi x imm) s = .fault .divisionByZero) ∧
    (s.reg y ≠ 0 → ∃ t r f, exec (.div0 x y) s = .next t ∧ WritesRegFlags x r f s t ∧
      DivSpec (s.reg x) (s.reg y) r f) ∧
    (s.reg y ≠ 0 → ∃ t r f, exec (.div1 x y z) s = .next t ∧ WritesRegFlags z r f s t ∧
      DivSpec (s.reg x) (s.reg y) r f) ∧
    (s.reg y = 0 → exec (.div0 x y) s = .fault .divisionByZero ∧
      exec (.div1 x y z) s = .fault .divisionByZero)

/-- 41 R179 to R181: MODI, MOD0, MOD1 give the modulo with the divisor's sign and keep C, or fault
on a zero divisor. -/
def Obligations.ModuloResultAndFlags : Prop :=
  DecodesRI 0xA3 .modi ∧ DecodesRR 0xA4 .mod0 ∧ DecodesRRR 0xA5 .mod1 ∧
  ∀ (s : State) (x y z : Reg) (imm : Word),
    (imm ≠ 0 → ∃ t r f, exec (.modi x imm) s = .next t ∧ WritesRegFlags x r f s t ∧
      ModSpec s.flags.c (s.reg x) imm r f) ∧
    (imm = 0 → exec (.modi x imm) s = .fault .divisionByZero) ∧
    (s.reg y ≠ 0 → ∃ t r f, exec (.mod0 x y) s = .next t ∧ WritesRegFlags x r f s t ∧
      ModSpec s.flags.c (s.reg x) (s.reg y) r f) ∧
    (s.reg y ≠ 0 → ∃ t r f, exec (.mod1 x y z) s = .next t ∧ WritesRegFlags z r f s t ∧
      ModSpec s.flags.c (s.reg x) (s.reg y) r f) ∧
    (s.reg y = 0 → exec (.mod0 x y) s = .fault .divisionByZero ∧
      exec (.mod1 x y z) s = .fault .divisionByZero)

/-- 41 R182 to R184: REMI, REM0, REM1 give the remainder with the dividend's sign and keep C, or
fault on a zero divisor. -/
def Obligations.RemainderResultAndFlags : Prop :=
  DecodesRI 0xA6 .remi ∧ DecodesRR 0xA7 .rem0 ∧ DecodesRRR 0xA8 .rem1 ∧
  ∀ (s : State) (x y z : Reg) (imm : Word),
    (imm ≠ 0 → ∃ t r f, exec (.remi x imm) s = .next t ∧ WritesRegFlags x r f s t ∧
      RemSpec s.flags.c (s.reg x) imm r f) ∧
    (imm = 0 → exec (.remi x imm) s = .fault .divisionByZero) ∧
    (s.reg y ≠ 0 → ∃ t r f, exec (.rem0 x y) s = .next t ∧ WritesRegFlags x r f s t ∧
      RemSpec s.flags.c (s.reg x) (s.reg y) r f) ∧
    (s.reg y ≠ 0 → ∃ t r f, exec (.rem1 x y z) s = .next t ∧ WritesRegFlags z r f s t ∧
      RemSpec s.flags.c (s.reg x) (s.reg y) r f) ∧
    (s.reg y = 0 → exec (.rem0 x y) s = .fault .divisionByZero ∧
      exec (.rem1 x y z) s = .fault .divisionByZero)

/-! ### Logic and shifts -/

/-- 42 R200 to R203, R206 to R211: AND, OR and XOR in their three forms, bit by bit. -/
def Obligations.AndOrXorWorkBitByBit : Prop :=
  DecodesRI 0x60 .andi ∧ DecodesRR 0x61 .and0 ∧ DecodesRRR 0x62 .and1 ∧
  DecodesRI 0x70 .ori ∧ DecodesRR 0x71 .or0 ∧ DecodesRRR 0x72 .or1 ∧
  DecodesRI 0x80 .xori ∧ DecodesRR 0x81 .xor0 ∧ DecodesRRR 0x82 .xor1 ∧
  ∀ (s : State) (x y z : Reg) (imm : Word),
    (∃ t r f, exec (.andi x imm) s = .next t ∧ WritesRegFlags x r f s t ∧ LogicSpec s.flags.c r f ∧
      ∀ k < 16, bitAt r k = bitAt (s.reg x) k * bitAt imm k) ∧
    (∃ t r f, exec (.and0 x y) s = .next t ∧ WritesRegFlags x r f s t ∧ LogicSpec s.flags.c r f ∧
      ∀ k < 16, bitAt r k = bitAt (s.reg x) k * bitAt (s.reg y) k) ∧
    (∃ t r f, exec (.and1 x y z) s = .next t ∧ WritesRegFlags z r f s t ∧ LogicSpec s.flags.c r f ∧
      ∀ k < 16, bitAt r k = bitAt (s.reg x) k * bitAt (s.reg y) k) ∧
    (∃ t r f, exec (.ori x imm) s = .next t ∧ WritesRegFlags x r f s t ∧ LogicSpec s.flags.c r f ∧
      ∀ k < 16, bitAt r k = max (bitAt (s.reg x) k) (bitAt imm k)) ∧
    (∃ t r f, exec (.or0 x y) s = .next t ∧ WritesRegFlags x r f s t ∧ LogicSpec s.flags.c r f ∧
      ∀ k < 16, bitAt r k = max (bitAt (s.reg x) k) (bitAt (s.reg y) k)) ∧
    (∃ t r f, exec (.or1 x y z) s = .next t ∧ WritesRegFlags z r f s t ∧ LogicSpec s.flags.c r f ∧
      ∀ k < 16, bitAt r k = max (bitAt (s.reg x) k) (bitAt (s.reg y) k)) ∧
    (∃ t r f, exec (.xori x imm) s = .next t ∧ WritesRegFlags x r f s t ∧ LogicSpec s.flags.c r f ∧
      ∀ k < 16, bitAt r k = (bitAt (s.reg x) k + bitAt imm k) % 2) ∧
    (∃ t r f, exec (.xor0 x y) s = .next t ∧ WritesRegFlags x r f s t ∧ LogicSpec s.flags.c r f ∧
      ∀ k < 16, bitAt r k = (bitAt (s.reg x) k + bitAt (s.reg y) k) % 2) ∧
    ∃ t r f, exec (.xor1 x y z) s = .next t ∧ WritesRegFlags z r f s t ∧ LogicSpec s.flags.c r f ∧
      ∀ k < 16, bitAt r k = (bitAt (s.reg x) k + bitAt (s.reg y) k) % 2

/-- 42 R204, R205: TSTI and TST write the flags of the AND and no register. -/
def Obligations.TestWritesOnlyFlags : Prop :=
  DecodesRI 0x63 .tsti ∧ DecodesRR 0x64 .tst ∧
  ∀ (s : State) (x y : Reg) (imm : Word),
    (∃ t r f, exec (.tsti x imm) s = .next t ∧ WritesFlags f s t ∧ LogicSpec s.flags.c r f ∧
      ∀ k < 16, bitAt r k = bitAt (s.reg x) k * bitAt imm k) ∧
    ∃ t r f, exec (.tst x y) s = .next t ∧ WritesFlags f s t ∧ LogicSpec s.flags.c r f ∧
      ∀ k < 16, bitAt r k = bitAt (s.reg x) k * bitAt (s.reg y) k

/-- 42 R212 to R217: NOT is 0xFFFF less the operand, NEG is 0x10000 less the operand modulo 2^16,
from the immediate, in place, or from Y. -/
def Obligations.ComplementAndNegation : Prop :=
  DecodesRI 0xE0 .noti ∧ DecodesR 0xE1 .not0 ∧ DecodesRR 0xE2 .not1 ∧
  DecodesRI 0xE3 .negi ∧ DecodesR 0xE4 .neg0 ∧ DecodesRR 0xE5 .neg1 ∧
  ∀ (s : State) (x y : Reg) (imm : Word),
    (∃ t r f, exec (.noti x imm) s = .next t ∧ WritesRegFlags x r f s t ∧ LogicSpec s.flags.c r f ∧
      r.toNat = 0xFFFF - imm.toNat) ∧
    (∃ t r f, exec (.not0 x) s = .next t ∧ WritesRegFlags x r f s t ∧ LogicSpec s.flags.c r f ∧
      r.toNat = 0xFFFF - (s.reg x).toNat) ∧
    (∃ t r f, exec (.not1 x y) s = .next t ∧ WritesRegFlags x r f s t ∧ LogicSpec s.flags.c r f ∧
      r.toNat = 0xFFFF - (s.reg y).toNat) ∧
    (∃ t r f, exec (.negi x imm) s = .next t ∧ WritesRegFlags x r f s t ∧ LogicSpec s.flags.c r f ∧
      r.toNat = (0x10000 - imm.toNat) % 65536) ∧
    (∃ t r f, exec (.neg0 x) s = .next t ∧ WritesRegFlags x r f s t ∧ LogicSpec s.flags.c r f ∧
      r.toNat = (0x10000 - (s.reg x).toNat) % 65536) ∧
    ∃ t r f, exec (.neg1 x y) s = .next t ∧ WritesRegFlags x r f s t ∧ LogicSpec s.flags.c r f ∧
      r.toNat = (0x10000 - (s.reg y).toNat) % 65536

/-- 43 R230 to R233: SHLI, SHRI, SARI. -/
def Obligations.ConstantShifts : Prop :=
  DecodesRN 0xB0 .shli ∧ DecodesRN 0xB1 .shri ∧ DecodesRN 0xB2 .sari ∧
  ∀ (s : State) (x : Reg) (n : Nibble),
    (∃ t r f, exec (.shli x n) s = .next t ∧ WritesRegFlags x r f s t ∧
      ShlSpec (s.reg x) n.toNat r f) ∧
    (∃ t r f, exec (.shri x n) s = .next t ∧ WritesRegFlags x r f s t ∧
      ShrSpec (s.reg x) n.toNat r f) ∧
    ∃ t r f, exec (.sari x n) s = .next t ∧ WritesRegFlags x r f s t ∧
      SarSpec (s.reg x) n.toNat r f

/-- 43 R230, R234 to R236: SHL0, SHR0, SAR0 shift by x[Y] modulo 16. -/
def Obligations.RegisterShifts : Prop :=
  DecodesRR 0xB3 .shl0 ∧ DecodesRR 0xB4 .shr0 ∧ DecodesRR 0xB5 .sar0 ∧
  ∀ (s : State) (x y : Reg),
    (∃ t r f, exec (.shl0 x y) s = .next t ∧ WritesRegFlags x r f s t ∧
      ShlSpec (s.reg x) ((s.reg y).toNat % 16) r f) ∧
    (∃ t r f, exec (.shr0 x y) s = .next t ∧ WritesRegFlags x r f s t ∧
      ShrSpec (s.reg x) ((s.reg y).toNat % 16) r f) ∧
    ∃ t r f, exec (.sar0 x y) s = .next t ∧ WritesRegFlags x r f s t ∧
      SarSpec (s.reg x) ((s.reg y).toNat % 16) r f

/-! ### Control transfer -/

/-- 44 R250, R251: the sixteen codes, when each condition holds, and what A, AE, B, BE and G, GE, L,
LE say after CMP rX, rY. -/
def Obligations.ConditionTableAndComparisons : Prop :=
  (∀ k < 16, condTable[k]? = some (Cond.ofCode (BitVec.ofNat 4 k))) ∧
  (∀ (f : Flags) (c : Cond), condHolds f c = true ↔ CondSpec f c) ∧
  ∀ (s : State) (x y : Reg), ∃ t, exec (.cmp x y) s = .next t ∧
    (condHolds t.flags .a = true ↔ (s.reg y).toNat < (s.reg x).toNat) ∧
    (condHolds t.flags .ae = true ↔ (s.reg y).toNat ≤ (s.reg x).toNat) ∧
    (condHolds t.flags .b = true ↔ (s.reg x).toNat < (s.reg y).toNat) ∧
    (condHolds t.flags .be = true ↔ (s.reg x).toNat ≤ (s.reg y).toNat) ∧
    (condHolds t.flags .g = true ↔ (s.reg y).toInt < (s.reg x).toInt) ∧
    (condHolds t.flags .ge = true ↔ (s.reg y).toInt ≤ (s.reg x).toInt) ∧
    (condHolds t.flags .l = true ↔ (s.reg x).toInt < (s.reg y).toInt) ∧
    (condHolds t.flags .le = true ↔ (s.reg x).toInt ≤ (s.reg y).toInt)

/-- 44 R252 to R255, R258: JMP0, JMP1, JMC, JX, JME change pc only, to the target or to next_pc. -/
def Obligations.JumpsChangeOnlyPc : Prop :=
  DecodesA 0x10 .jmp0 ∧ DecodesA 0x11 .jmc ∧ DecodesCI 0x12 .jx ∧ DecodesRRA 0x13 .jme ∧
  DecodesR 0x16 .jmp1 ∧
  ∀ (s : State) (x y : Reg) (c : Cond) (imm : Word),
    (∃ t, exec (.jmp0 imm) s = .next t ∧ OnlyPc imm s t) ∧
    (∃ t, exec (.jmp1 x) s = .next t ∧ OnlyPc (s.reg x) s t) ∧
    (s.flags.c = true → ∃ t, exec (.jmc imm) s = .next t ∧ OnlyPc imm s t) ∧
    (s.flags.c = false → ∃ t, exec (.jmc imm) s = .next t ∧ OnlyPc (s.pc + 4) s t) ∧
    (CondSpec s.flags c → ∃ t, exec (.jx c imm) s = .next t ∧ OnlyPc imm s t) ∧
    (¬ CondSpec s.flags c → ∃ t, exec (.jx c imm) s = .next t ∧ OnlyPc (s.pc + 4) s t) ∧
    (s.reg x = s.reg y → ∃ t, exec (.jme x y imm) s = .next t ∧ OnlyPc imm s t) ∧
    (s.reg x ≠ s.reg y → ∃ t, exec (.jme x y imm) s = .next t ∧ OnlyPc (s.pc + 4) s t)

/-- 44 R256, R260: CALL0 and CALL1 push next_pc and set pc to the target, or overflow at
sp = 0x0001. -/
def Obligations.CallsPushTheReturnAddress : Prop :=
  DecodesA 0x14 .call0 ∧ DecodesR 0x18 .call1 ∧
  ∀ (s : State) (x : Reg) (imm : Word),
    (s.sp ≠ 1 → ∃ t, exec (.call0 imm) s = .next t ∧ PushedWord (s.pc + 4) s t ∧ t.pc = imm ∧
      KeepsRegs [] s t ∧ t.flags = s.flags ∧ KeepsRest s t) ∧
    (s.sp ≠ 1 → ∃ t, exec (.call1 x) s = .next t ∧ PushedWord (s.pc + 4) s t ∧ t.pc = s.reg x ∧
      KeepsRegs [] s t ∧ t.flags = s.flags ∧ KeepsRest s t) ∧
    (s.sp = 1 → exec (.call0 imm) s = .fault (.stackOverflow s.sp) ∧
      exec (.call1 x) s = .fault (.stackOverflow s.sp))

/-- 44 R259: CX calls when its condition holds; when it does not, it changes pc only and faults for
no sp. -/
def Obligations.ConditionalCall : Prop :=
  DecodesCI 0x17 .cx ∧
  ∀ (s : State) (c : Cond) (addr : Word),
    (CondSpec s.flags c → s.sp ≠ 1 → ∃ t, exec (.cx c addr) s = .next t ∧
      PushedWord (s.pc + 4) s t ∧ t.pc = addr ∧ KeepsRegs [] s t ∧ t.flags = s.flags ∧
      KeepsRest s t) ∧
    (CondSpec s.flags c → s.sp = 1 → exec (.cx c addr) s = .fault (.stackOverflow s.sp)) ∧
    (¬ CondSpec s.flags c → ∃ t, exec (.cx c addr) s = .next t ∧ OnlyPc (s.pc + 4) s t)

/-- 44 R257: RET pops pc, or underflows at sp = 0x0000 and 0xFFFF. -/
def Obligations.ReturnPopsPc : Prop :=
  DecodesN 0x15 .ret ∧
  ∀ s : State,
    (s.sp ≠ 0 → s.sp ≠ 0xFFFF → ∃ t, exec .ret s = .next t ∧ PoppedWord t.pc s t ∧
      KeepsRegs [] s t ∧ t.flags = s.flags ∧ KeepsRest s t) ∧
    (s.sp = 0 ∨ s.sp = 0xFFFF → exec .ret s = .fault (.stackUnderflow s.sp))

/-- 44 R257 with 93 I12: a RET executed with the stack a CALL left goes to the call's pc + 4 and
puts sp back. sp = 0x0001 is left out because the CALL faults there, and sp = 0x0002 because the
CALL then leaves sp = 0x0000, which reads as the empty stack (93 I12). -/
def Obligations.CallThenReturn : Prop :=
  ∀ (s t u : State) (imm : Word), s.sp ≠ 1 → s.sp ≠ 2 → exec (.call0 imm) s = .next t →
    u.sp = t.sp → KeepsMem t u → ∃ v, exec .ret u = .next v ∧ v.pc = s.pc + 4 ∧ v.sp = s.sp

/-! ### Stack -/

/-- 45 R280, R284: PUSH pushes its register and PUSHF the word whose low byte is FLAGS, or they
overflow at sp = 0x0001. -/
def Obligations.PushInstructions : Prop :=
  DecodesR 0xC0 .push ∧ DecodesN 0xC4 .pushf ∧
  ∀ (s : State) (x : Reg),
    (s.sp ≠ 1 → ∃ t, exec (.push x) s = .next t ∧ PushedWord (s.reg x) s t ∧ t.pc = s.pc + 4 ∧
      KeepsRegs [] s t ∧ t.flags = s.flags ∧ KeepsRest s t) ∧
    (s.sp ≠ 1 → ∃ t v, exec .pushf s = .next t ∧ PushedWord v s t ∧
      v.toNat = 128 * s.flags.n.toNat + 64 * s.flags.o.toNat + 4 * s.flags.z.toNat +
        2 * s.flags.c.toNat ∧
      t.pc = s.pc + 4 ∧ KeepsRegs [] s t ∧ t.flags = s.flags ∧ KeepsRest s t) ∧
    (s.sp = 1 → exec (.push x) s = .fault (.stackOverflow s.sp) ∧
      exec .pushf s = .fault (.stackOverflow s.sp))

/-- 45 R281: POP loads its register from the stack and leaves memory as it is, or underflows at
sp = 0x0000 and 0xFFFF. -/
def Obligations.PopLoadsTheRegister : Prop :=
  DecodesR 0xC1 .pop ∧
  ∀ (s : State) (x : Reg),
    (s.sp ≠ 0 → s.sp ≠ 0xFFFF → ∃ t, exec (.pop x) s = .next t ∧ PoppedWord (t.reg x) s t ∧
      t.pc = s.pc + 4 ∧ KeepsRegs [x] s t ∧ t.flags = s.flags ∧ KeepsRest s t) ∧
    (s.sp = 0 ∨ s.sp = 0xFFFF → exec (.pop x) s = .fault (.stackUnderflow s.sp))

/-- 45 R285: POPF sets C, Z, O, N from bits 1, 2, 6, 7 of the popped word, or underflows at
sp = 0x0000 and 0xFFFF; POPF run with the stack a PUSHF left restores the flags. The second half
leaves out sp = 0x0001 (the PUSHF faults) and sp = 0x0002 (sp becomes the empty stack, 93 I12). -/
def Obligations.PopFlags : Prop :=
  DecodesN 0xC5 .popf ∧
  (∀ s : State,
    (s.sp ≠ 0 → s.sp ≠ 0xFFFF → ∃ t v, exec .popf s = .next t ∧ PoppedWord v s t ∧
      (t.flags.c = true ↔ bitAt v 1 = 1) ∧ (t.flags.z = true ↔ bitAt v 2 = 1) ∧
      (t.flags.o = true ↔ bitAt v 6 = 1) ∧ (t.flags.n = true ↔ bitAt v 7 = 1) ∧
      t.pc = s.pc + 4 ∧ KeepsRegs [] s t ∧ KeepsRest s t) ∧
    (s.sp = 0 ∨ s.sp = 0xFFFF → exec .popf s = .fault (.stackUnderflow s.sp))) ∧
  ∀ s t u : State, s.sp ≠ 1 → s.sp ≠ 2 → exec .pushf s = .next t → u.sp = t.sp → KeepsMem t u →
    ∃ v, exec .popf u = .next v ∧ v.flags = s.flags ∧ v.sp = s.sp

/-- 45 R282: PUSHALL puts r0 at S - 2 down to r15 at S - 32 and changes no other byte, or overflows
at sp 0x0001 to 0x001F and writes nothing. -/
def Obligations.PushAllLayout : Prop :=
  DecodesN 0xC2 .pushall ∧
  ∀ s : State,
    (s.sp = 0 ∨ 32 ≤ s.sp.toNat → ∃ t, exec .pushall s = .next t ∧
      (∀ i : Reg, HoldsWord t.mem (stackPos s.sp - 2 * (i.val + 1)) (s.reg i)) ∧
      KeepsMemOutside (stackPos s.sp - 32) 32 s t ∧ t.sp.toNat = (stackPos s.sp - 32) % 65536 ∧
      t.pc = s.pc + 4 ∧ KeepsRegs [] s t ∧ t.flags = s.flags ∧ KeepsRest s t) ∧
    (1 ≤ s.sp.toNat → s.sp.toNat ≤ 0x1F → exec .pushall s = .fault (.stackOverflow s.sp))

/-- 45 R283: POPALL loads ri from S + 30 - 2i, or underflows at sp = 0x0000 and above 0xFFE0 and
changes nothing. -/
def Obligations.PopAllLayout : Prop :=
  DecodesN 0xC3 .popall ∧
  ∀ s : State,
    (s.sp ≠ 0 → s.sp.toNat ≤ 0xFFE0 → ∃ t, exec .popall s = .next t ∧
      (∀ i : Reg, HoldsWord s.mem (s.sp.toNat + 30 - 2 * i.val) (t.reg i)) ∧ KeepsMem s t ∧
      t.sp.toNat = (s.sp.toNat + 32) % 65536 ∧ t.pc = s.pc + 4 ∧ t.flags = s.flags ∧
      KeepsRest s t) ∧
    (s.sp = 0 ∨ 0xFFE0 < s.sp.toNat → exec .popall s = .fault (.stackUnderflow s.sp))

/-- 45 R283, 95 E3: POPALL run with the stack a PUSHALL left restores every general register and sp,
whatever the registers hold by then. S(sp) = 32 is left out: PUSHALL then leaves sp = 0x0000, the
empty stack (93 I12; log 12). -/
def Obligations.PushAllThenPopAll : Prop :=
  ∀ s t u : State, s.sp = 0 ∨ 32 < s.sp.toNat → exec .pushall s = .next t →
    u.sp = t.sp → KeepsMem t u →
    ∃ v, exec .popall u = .next v ∧ v.sp = s.sp ∧ ∀ i : Reg, v.reg i = s.reg i

/-! ### Peripheral and miscellaneous -/

/-- 46 R300, R301, R304 to R307: BGC, SPR and FLIP0 to FLIP3 write their registers; only BGC makes a
call. -/
def Obligations.PeripheralRegisterWrites : Prop :=
  DecodesK 0x03 .bgc ∧ DecodesA 0x04 .spr ∧ DecodesF 0x08 0 .flip0 ∧ DecodesF 0x08 1 .flip1 ∧
  DecodesF 0x08 2 .flip2 ∧ DecodesF 0x08 3 .flip3 ∧
  ∀ (s : State) (n : Nibble) (imm : Word),
    (∃ t, exec (.bgc n) s = .next t ∧ t.bgc.toNat = n.toNat ∧ Emits [.setBackground n] s t ∧
      KeepsCpu s t ∧ t.sprW = s.sprW ∧ t.sprH = s.sprH ∧ t.hflip = s.hflip ∧ t.vflip = s.vflip ∧
      KeepsEnv s t ∧ t.rng = s.rng) ∧
    (∃ t, exec (.spr imm) s = .next t ∧ t.sprW.toNat = imm.toNat % 256 ∧
      t.sprH.toNat = imm.toNat / 256 ∧ KeepsOutput s t ∧ KeepsCpu s t ∧ t.bgc = s.bgc ∧
      t.hflip = s.hflip ∧ t.vflip = s.vflip ∧ KeepsEnv s t ∧ t.rng = s.rng) ∧
    ∀ p ∈ [(Instr.flip0, false, false), (.flip1, false, true), (.flip2, true, false),
        (.flip3, true, true)],
      ∃ t, exec p.1 s = .next t ∧ t.hflip = p.2.1 ∧ t.vflip = p.2.2 ∧ KeepsOutput s t ∧
        KeepsCpu s t ∧ t.bgc = s.bgc ∧ t.sprW = s.sprW ∧ t.sprH = s.sprH ∧ KeepsEnv s t ∧
        t.rng = s.rng

/-- 46 R302, R303: DRW0 and DRW1 make one draw call with the core's sprite registers, change nothing
but pc, and fault at no address. -/
def Obligations.DrawInstructionsMakeOneCall : Prop :=
  DecodesRRA 0x05 .drw0 ∧ DecodesRRR 0x06 .drw1 ∧
  ∀ (s : State) (x y z : Reg) (imm : Word),
    (∃ t, exec (.drw0 x y imm) s = .next t ∧
      Emits [.drawSprite imm (s.reg x) (s.reg y) s.sprW s.sprH 0 s.hflip s.vflip] s t ∧
      KeepsCpu s t ∧ KeepsSprite s t ∧ KeepsEnv s t ∧ t.rng = s.rng) ∧
    ∃ t, exec (.drw1 x y z) s = .next t ∧
      Emits [.drawSprite (s.reg z) (s.reg x) (s.reg y) s.sprW s.sprH 0 s.hflip s.vflip] s t ∧
      KeepsCpu s t ∧ KeepsSprite s t ∧ KeepsEnv s t ∧ t.rng = s.rng

/-- 46 R312 to R316: SND0 to SND3 and SNP make one tone call with the current envelope and change
nothing but pc; SNP faults when its address is 0xFFFF. -/
def Obligations.ToneInstructions : Prop :=
  DecodesN 0x09 .snd0 ∧ DecodesA 0x0A .snd1 ∧ DecodesA 0x0B .snd2 ∧ DecodesA 0x0C .snd3 ∧
  DecodesRI 0x0D .snp ∧
  ∀ (s : State) (x : Reg) (imm : Word),
    (∀ p ∈ [(Instr.snd0, (0 : Word), (0 : Word)), (.snd1 imm, 500, imm), (.snd2 imm, 1000, imm),
        (.snd3 imm, 1500, imm)],
      ∃ t, exec p.1 s = .next t ∧
        Emits [.playTone 0 p.2.1 p.2.2 s.envA s.envD s.envS s.envR] s t ∧
        KeepsCpu s t ∧ KeepsSprite s t ∧ KeepsEnv s t ∧ t.rng = s.rng) ∧
    (s.reg x ≠ 0xFFFF → ∃ t f, exec (.snp x imm) s = .next t ∧ HoldsWord s.mem (s.reg x).toNat f ∧
      Emits [.playTone 0 f imm s.envA s.envD s.envS s.envR] s t ∧
      KeepsCpu s t ∧ KeepsSprite s t ∧ KeepsEnv s t ∧ t.rng = s.rng) ∧
    (s.reg x = 0xFFFF → exec (.snp x imm) s = .fault (.outOfBounds (s.reg x) 2))

/-- 46 R317: SNG writes the envelope and makes one tone call of frequency 0 and duration 0 that
carries it; its volume and type fields have no effect. -/
def Obligations.EnvelopeInstruction : Prop :=
  DecodesS 0x0E .sng ∧
  ∀ (s : State) (a d v t' sus rel : Nibble),
    ∃ t, exec (.sng a d v t' sus rel) s = .next t ∧ t.envA = a ∧ t.envD = d ∧ t.envS = sus ∧
      t.envR = rel ∧ Emits [.playTone 0 0 0 a d sus rel] s t ∧ KeepsCpu s t ∧ KeepsSprite s t ∧
      t.rng = s.rng

/-- 46 R308 to R310: PAL0 and PAL1 send the sixteen colours of the table in slot order, each
0xRRGGBB from three bytes, or fault before any call when the table does not fit. -/
def Obligations.PaletteInstructions : Prop :=
  DecodesA 0xD0 .pal0 ∧ DecodesR 0xD1 .pal1 ∧
  ∀ (s : State) (x : Reg) (imm : Word),
    ∀ p ∈ [(Instr.pal0 imm, imm), (.pal1 x, s.reg x)],
      (p.2.toNat ≤ 0xFFD0 → ∃ t cs, exec p.1 s = .next t ∧ cs.length = 16 ∧ Emits cs s t ∧
        (∀ k < 16, ∃ rgb, cs[k]? = some (.setPalette (BitVec.ofNat 4 k) rgb) ∧
          rgb.toNat = (readByte s.mem (p.2.toNat + 3 * k)).toNat * 65536 +
            (readByte s.mem (p.2.toNat + 3 * k + 1)).toNat * 256 +
            (readByte s.mem (p.2.toNat + 3 * k + 2)).toNat) ∧
        KeepsCpu s t ∧ KeepsSprite s t ∧ KeepsEnv s t ∧ t.rng = s.rng) ∧
      (0xFFD0 < p.2.toNat → exec p.1 s = .fault (.outOfBounds p.2 48))

/-- 46 R318: RND writes the value RNG_NEXT gives for rng and the bound, which is at most the bound (0
for the bound 0), and sets rng to the state RNG_NEXT gives; nothing else changes but pc. It holds for
every generator: `Config.rngNext` has no body (log 4). -/
def Obligations.RandomValueWithinTheBound : Prop :=
  DecodesRI 0x07 .rnd ∧
  ∀ (s : State) (x : Reg) (imm : Word),
    ∃ t, exec (.rnd x imm) s = .next t ∧ (t.reg x).toNat = (Config.rngNext s.rng imm).1.val ∧
      (t.reg x).toNat ≤ imm.toNat ∧ t.rng = (Config.rngNext s.rng imm).2 ∧ KeepsRegs [x] s t ∧
      t.sp = s.sp ∧ t.flags = s.flags ∧ KeepsMem s t ∧ t.pc = s.pc + 4 ∧ KeepsSprite s t ∧
      KeepsEnv s t ∧ KeepsOutput s t

/-- 46 R319 to R321: NOP only advances pc, CLS makes one clear_screen call and keeps bgc, VBLNK
makes one wait_vblank call and makes the outcome Yield (kept in `result`, log 1). -/
def Obligations.NopClsVblnk : Prop :=
  DecodesN 0x00 .nop ∧ DecodesN 0x01 .cls ∧ DecodesN 0x02 .vblnk ∧
  ∀ s : State,
    (∃ t, exec .nop s = .next t ∧ OnlyPc (s.pc + 4) s t) ∧
    (∃ t, exec .cls s = .next t ∧ Emits [.clearScreen] s t ∧ KeepsCpu s t ∧ KeepsSprite s t ∧
      KeepsEnv s t ∧ t.rng = s.rng) ∧
    ∃ t, exec .vblnk s = .next t ∧ t.calls = s.calls ++ [.waitVblank] ∧ t.result = .yield ∧
      KeepsCpu s t ∧ KeepsSprite s t ∧ KeepsEnv s t ∧ t.rng = s.rng

/-! ### The step -/

/-- 60 R401: where the four bytes at pc decode to i, the step is exec of i on the state with the
outcome set to Ok (log 1). -/
def Obligations.StepRunsTheDecodedInstruction : Prop :=
  ∀ (s : State) (i : Instr), s.pc.toNat + 4 ≤ 65536 → i.wellFormed = true →
    decodeWord (wordOfBytes (readByte s.mem s.pc.toNat) (readByte s.mem (s.pc.toNat + 1))
      (readByte s.mem (s.pc.toNat + 2)) (readByte s.mem (s.pc.toNat + 3))) = .ok i →
    step s = exec i { s with result := .ok }

/-- 60 R403, R409: a step reports the fetch's OutOfBounds first, then UnknownOpcode, and else what
the instruction does. -/
def Obligations.StepFaultPriority : Prop :=
  ∀ s : State,
    (65536 < s.pc.toNat + 4 → step s = .fault (.outOfBounds s.pc 4)) ∧
    (s.pc.toNat + 4 ≤ 65536 → Unassigned (readByte s.mem s.pc.toNat).toNat →
      step s = .fault (.unknownOpcode (readByte s.mem s.pc.toNat))) ∧
    (s.pc.toNat + 4 ≤ 65536 → ¬ Unassigned (readByte s.mem s.pc.toNat).toNat →
      ∃ i, decodeWord (readQuad s.mem s.pc.toNat) = .ok i ∧ step s = exec i { s with result := .ok })

/-- 60 R401: a committed step returns Yield exactly when the instruction was VBLNK. -/
def Obligations.YieldExactlyAfterVblnk : Prop :=
  ∀ s t : State, step s = .next t →
    (t.result = .yield ↔ (readByte s.mem s.pc.toNat).toNat = 0x02)

/-- 60 R408: which fault each instruction can raise, and that no instruction is refused. -/
def Obligations.FaultsOfEachInstruction : Prop :=
  (∀ (s : State) (i : Instr) (f : Fault), exec i s = .fault f →
    (∃ a, accessesWord i = true ∧ f = .outOfBounds a 2) ∨
    (∃ a, accessesPalette i = true ∧ f = .outOfBounds a 48) ∨
    (divides i = true ∧ f = .divisionByZero) ∨
    (pushes i = true ∧ f = .stackOverflow s.sp) ∨
    (pops i = true ∧ f = .stackUnderflow s.sp)) ∧
  (∀ (s : State) (i : Instr) (r : Refusal), exec i s ≠ .refused r) ∧
  ∀ (s : State) (r : Refusal), step s ≠ .refused r

/-- 60 R402, R412: after a fault the host's step leaves the state as it was and delivers no call, and
the next step returns the same fault. -/
def Obligations.FaultChangesNothingAndRepeats : Prop :=
  ∀ (c d : CoreState) (f : Fault) (cs : List Call), hostStep c = .ok (d, .fault f, cs) →
    d = c ∧ cs = [] ∧ hostStep d = .ok (d, .fault f, [])

/-! ### Whole-machine rules -/

/-- The invariant `StateInv`: canonical memory (the model's own form, log 6), bgc in 0 to 15 (10 R41),
sp even (93 I13) is kept by every step from every state that meets it. -/
def Obligations.EveryStepKeepsTheInvariant : Prop :=
  ∀ s t : State, StateInv s → step s = .next t → StateInv t

/-- The reset state meets the invariant. -/
def Obligations.ResetMeetsTheInvariant : Prop := StateInv State.reset

/-- 70 R441: the state right after new. -/
def Obligations.ResetState : Prop :=
  hostNew 65536 = .ok State.reset.toCoreState ∧ (∀ x : Reg, State.reset.reg x = 0) ∧ State.reset.pc = 0 ∧
  State.reset.sp = 0 ∧ flagsByte State.reset.flags = 0 ∧ State.reset.flags = ⟨false, false, false, false⟩ ∧
  State.reset.bgc = 0 ∧ State.reset.sprW = 0 ∧ State.reset.sprH = 0 ∧ State.reset.hflip = false ∧
  State.reset.vflip = false ∧ State.reset.envA = 0 ∧ State.reset.envD = 0 ∧
  State.reset.envS = 0 ∧ State.reset.envR = 0 ∧ State.reset.rng = Config.rngSeed ∧
  ∀ a < 65536, readByte State.reset.mem a = 0

/-- 20 R72: after MemWrite(a, 2, v) the two bytes and the word at a read back as v, every other byte
reads as before, and a 32-bit read sees two 16-bit words. -/
def Obligations.MixedWidthAccesses : Prop :=
  ∀ (m : Memory) (a : Nat) (v : Word),
    HoldsWord (writeWord m a v) a v ∧ readWord (writeWord m a v) a = v ∧
    (∀ b, b ≠ a → b ≠ a + 1 → readByte (writeWord m a v) b = readByte m b) ∧
    (readQuad m a).toNat = (readWord m a).toNat * 65536 + (readWord m (a + 2)).toNat

/-- 10 R38: the FLAGS byte and what POPF keeps of a word. -/
def Obligations.FlagsByteLayout : Prop :=
  (∀ f : Flags, (flagsByte f).toNat =
    128 * f.n.toNat + 64 * f.o.toNat + 4 * f.z.toNat + 2 * f.c.toNat) ∧
  (∀ v : Word, flagsByte (flagsOfWord v) = v.setWidth 8 &&& 0xC6) ∧
  ∀ f : Flags, flagsOfWord (flagsWord f) = f

/-- 10 R39: which instructions may write flags, keep C, and clear O. -/
def Obligations.FlagWriters : Prop :=
  ∀ (s t : State) (i : Instr), exec i s = .next t →
    (writesAllFlags i = false → keepsCarry i = false → t.flags = s.flags) ∧
    (keepsCarry i = true → t.flags.c = s.flags.c) ∧
    (clearsOverflow i = true → t.flags.o = false)

/-- 10 R39: no instruction but JMC, JX, CX and PUSHF reads a flag: from two states that differ only
in the flags, every other instruction gives the same outcome up to the flags. -/
def Obligations.FlagsReadOnlyByTheirReaders : Prop :=
  ∀ (s : State) (i : Instr) (f g : Flags), readsFlags i = false →
    mapNext (fun t => t.setFlags g) (exec i (s.setFlags f)) =
      mapNext (fun t => t.setFlags g) (exec i s)

/-- 10 R45: only RND reads and writes rng. -/
def Obligations.OnlyRndUsesRng : Prop :=
  ∀ (s : State) (i : Instr) (g : Config.RngState), usesRng i = false →
    exec i (s.setRng g) = mapNext (fun t => t.setRng g) (exec i s)

/-- 10 R35: only the stack instructions, the calls and RET read or write sp. -/
def Obligations.OnlyStackInstructionsUseSp : Prop :=
  ∀ (s : State) (i : Instr) (v : Word), pushes i = false → pops i = false →
    exec i (s.setSp v) = mapNext (fun t => t.setSp v) (exec i s)

/-- 10 R41, R42: which instructions write the peripheral-control and envelope registers. -/
def Obligations.PeripheralRegisterWriters : Prop :=
  ∀ (s t : State) (i : Instr), exec i s = .next t →
    (writesSprite i = false → KeepsSprite s t) ∧ (writesEnv i = false → KeepsEnv s t)

/-- The model's own output records (logs 1 and 2): no instruction reads them, so a step from a state
with other records differs in the records alone; and the calls only grow, by instructions that make
calls (60 R417). -/
def Obligations.OutputRecordsAreOnlyWritten : Prop :=
  (∀ (s : State) (i : Instr) (cs : List Call),
    exec i { s with calls := cs ++ s.calls } =
      mapNext (fun t => { t with calls := cs ++ t.calls }) (exec i s)) ∧
  (∀ (s : State) (i : Instr) (r q : StepResult),
    mapNext (fun t => t.setResult q) (exec i (s.setResult r)) =
      mapNext (fun t => t.setResult q) (exec i s)) ∧
  ∀ (s t : State) (i : Instr), exec i s = .next t →
    ∃ cs, t.calls = s.calls ++ cs ∧ cs.length ≤ 16 ∧ (makesCall i = false → cs = [])

/-! ### The host's surface -/

/-- 70 R443: load copies the bytes or, when they do not fit, writes nothing; nothing but memory
changes. -/
def Obligations.LoadCopiesTheImage : Prop :=
  ∀ (c : CoreState) (address : Nat) (bytes : List Byte),
    (65536 < address + bytes.length → hostLoad c address bytes = none) ∧
    (address + bytes.length ≤ 65536 → ∃ d, hostLoad c address bytes = some d ∧
      (∀ k (h : k < bytes.length), readByte d.mem (address + k) = bytes[k]) ∧
      (∀ a, (a < address ∨ address + bytes.length ≤ a) → readByte d.mem a = readByte c.mem a) ∧
      { d with mem := c.mem } = c)

/-- 70 R440, R445: new with another size and register indices above 15 are refused; set_register
then register reads the value back and changes no other register. -/
def Obligations.HostAccessors : Prop :=
  (∀ n, n ≠ 65536 → hostNew n = .error (.badMemorySize n)) ∧
  ∀ (c : CoreState) (i : Nat) (v : Word),
    (15 < i → hostRegister c i = .error (.badRegisterIndex i) ∧
      hostSetRegister c i v = .error (.badRegisterIndex i)) ∧
    (∀ x : Reg, x.val = i → hostRegister c i = .ok c.regs[x] ∧
      ∃ d, hostSetRegister c i v = .ok d ∧ d.regs[x] = v ∧
        (∀ y : Reg, y ≠ x → d.regs[y] = c.regs[y]) ∧ { d with regs := c.regs } = c)

/-- The model's own placing of an instruction (log 7): the next step runs exactly it, and nothing is
changed but four bytes and, where no fetch is possible, pc. -/
def Obligations.WithFetchWordRunsTheWord : Prop :=
  ∀ (s : State) (w : Nat) (i : Instr), w < 2 ^ 32 → decodeWord (BitVec.ofNat 32 w) = .ok i →
    step (s.withFetchWord 32 w) = exec i (s.withFetchWord 32 w).beginStep ∧
    KeepsMemOutside (s.withFetchWord 32 w).pc.toNat 4 s (s.withFetchWord 32 w) ∧
    (s.pc.toNat + 4 ≤ 65536 → (s.withFetchWord 32 w).pc = s.pc) ∧
    { s.withFetchWord 32 w with mem := s.mem, pc := s.pc } = s

/-- 10 R48, 60 R401, R418, R422: what the host's step keeps, returns and delivers comes from the core's state
alone. Whatever records a state carries, a step from it that commits leaves the core's state that the
host's step keeps, with the outcome the host's step returns and the calls it delivers (logs 1 and 2);
and a step that faults is a fault the host's step returns. -/
def Obligations.OutcomeIsReturnedAndNotKept : Prop :=
  ∀ s : State,
    (∀ t, step s = .next t →
      hostStep s.toCoreState = .ok (t.toCoreState, t.result.returned, deliveredBy s t)) ∧
    ∀ f, step s = .fault f → hostStep s.toCoreState = .ok (s.toCoreState, .fault f, [])
end

