-- ==== Sys2Proof/Laws/State.lean ====
section
/-! SUPPORT. What each update of the state does to each field: one lemma per field per update. -/

namespace Sys2Proof.Machine

variable (s : State)

/-! ### setReg -/

@[simp] theorem State.setReg_regs (x : Reg) (v : Word) : (s.setReg x v).regs = s.regs.set x v := rfl
@[simp] theorem State.setReg_pc (x : Reg) (v : Word) : (s.setReg x v).pc = s.pc := rfl
@[simp] theorem State.setReg_sp (x : Reg) (v : Word) : (s.setReg x v).sp = s.sp := rfl
@[simp] theorem State.setReg_flags (x : Reg) (v : Word) : (s.setReg x v).flags = s.flags := rfl
@[simp] theorem State.setReg_bgc (x : Reg) (v : Word) : (s.setReg x v).bgc = s.bgc := rfl
@[simp] theorem State.setReg_sprW (x : Reg) (v : Word) : (s.setReg x v).sprW = s.sprW := rfl
@[simp] theorem State.setReg_sprH (x : Reg) (v : Word) : (s.setReg x v).sprH = s.sprH := rfl
@[simp] theorem State.setReg_hflip (x : Reg) (v : Word) : (s.setReg x v).hflip = s.hflip := rfl
@[simp] theorem State.setReg_vflip (x : Reg) (v : Word) : (s.setReg x v).vflip = s.vflip := rfl
@[simp] theorem State.setReg_envA (x : Reg) (v : Word) : (s.setReg x v).envA = s.envA := rfl
@[simp] theorem State.setReg_envD (x : Reg) (v : Word) : (s.setReg x v).envD = s.envD := rfl
@[simp] theorem State.setReg_envS (x : Reg) (v : Word) : (s.setReg x v).envS = s.envS := rfl
@[simp] theorem State.setReg_envR (x : Reg) (v : Word) : (s.setReg x v).envR = s.envR := rfl
@[simp] theorem State.setReg_rng (x : Reg) (v : Word) : (s.setReg x v).rng = s.rng := rfl
@[simp] theorem State.setReg_mem (x : Reg) (v : Word) : (s.setReg x v).mem = s.mem := rfl
@[simp] theorem State.setReg_result (x : Reg) (v : Word) : (s.setReg x v).result = s.result := rfl
@[simp] theorem State.setReg_calls (x : Reg) (v : Word) : (s.setReg x v).calls = s.calls := rfl

@[simp] theorem State.setReg_nextPc (x : Reg) (v : Word) : (s.setReg x v).nextPc = s.nextPc := rfl

/-! ### setRegs -/

@[simp] theorem State.setRegs_regs (v : Vector Word 16) : (s.setRegs v).regs = v := rfl
@[simp] theorem State.setRegs_pc (v : Vector Word 16) : (s.setRegs v).pc = s.pc := rfl
@[simp] theorem State.setRegs_sp (v : Vector Word 16) : (s.setRegs v).sp = s.sp := rfl
@[simp] theorem State.setRegs_flags (v : Vector Word 16) : (s.setRegs v).flags = s.flags := rfl
@[simp] theorem State.setRegs_bgc (v : Vector Word 16) : (s.setRegs v).bgc = s.bgc := rfl
@[simp] theorem State.setRegs_sprW (v : Vector Word 16) : (s.setRegs v).sprW = s.sprW := rfl
@[simp] theorem State.setRegs_sprH (v : Vector Word 16) : (s.setRegs v).sprH = s.sprH := rfl
@[simp] theorem State.setRegs_hflip (v : Vector Word 16) : (s.setRegs v).hflip = s.hflip := rfl
@[simp] theorem State.setRegs_vflip (v : Vector Word 16) : (s.setRegs v).vflip = s.vflip := rfl
@[simp] theorem State.setRegs_envA (v : Vector Word 16) : (s.setRegs v).envA = s.envA := rfl
@[simp] theorem State.setRegs_envD (v : Vector Word 16) : (s.setRegs v).envD = s.envD := rfl
@[simp] theorem State.setRegs_envS (v : Vector Word 16) : (s.setRegs v).envS = s.envS := rfl
@[simp] theorem State.setRegs_envR (v : Vector Word 16) : (s.setRegs v).envR = s.envR := rfl
@[simp] theorem State.setRegs_rng (v : Vector Word 16) : (s.setRegs v).rng = s.rng := rfl
@[simp] theorem State.setRegs_mem (v : Vector Word 16) : (s.setRegs v).mem = s.mem := rfl
@[simp] theorem State.setRegs_result (v : Vector Word 16) : (s.setRegs v).result = s.result := rfl
@[simp] theorem State.setRegs_calls (v : Vector Word 16) : (s.setRegs v).calls = s.calls := rfl

@[simp] theorem State.setRegs_nextPc (v : Vector Word 16) : (s.setRegs v).nextPc = s.nextPc := rfl

/-! ### setPc -/

@[simp] theorem State.setPc_regs (v : Word) : (s.setPc v).regs = s.regs := rfl
@[simp] theorem State.setPc_pc (v : Word) : (s.setPc v).pc = v := rfl
@[simp] theorem State.setPc_sp (v : Word) : (s.setPc v).sp = s.sp := rfl
@[simp] theorem State.setPc_flags (v : Word) : (s.setPc v).flags = s.flags := rfl
@[simp] theorem State.setPc_bgc (v : Word) : (s.setPc v).bgc = s.bgc := rfl
@[simp] theorem State.setPc_sprW (v : Word) : (s.setPc v).sprW = s.sprW := rfl
@[simp] theorem State.setPc_sprH (v : Word) : (s.setPc v).sprH = s.sprH := rfl
@[simp] theorem State.setPc_hflip (v : Word) : (s.setPc v).hflip = s.hflip := rfl
@[simp] theorem State.setPc_vflip (v : Word) : (s.setPc v).vflip = s.vflip := rfl
@[simp] theorem State.setPc_envA (v : Word) : (s.setPc v).envA = s.envA := rfl
@[simp] theorem State.setPc_envD (v : Word) : (s.setPc v).envD = s.envD := rfl
@[simp] theorem State.setPc_envS (v : Word) : (s.setPc v).envS = s.envS := rfl
@[simp] theorem State.setPc_envR (v : Word) : (s.setPc v).envR = s.envR := rfl
@[simp] theorem State.setPc_rng (v : Word) : (s.setPc v).rng = s.rng := rfl
@[simp] theorem State.setPc_mem (v : Word) : (s.setPc v).mem = s.mem := rfl
@[simp] theorem State.setPc_result (v : Word) : (s.setPc v).result = s.result := rfl
@[simp] theorem State.setPc_calls (v : Word) : (s.setPc v).calls = s.calls := rfl

@[simp] theorem State.setPc_reg (v : Word) (y : Reg) : (s.setPc v).reg y = s.reg y := rfl
@[simp] theorem State.setPc_nextPc (v : Word) : (s.setPc v).nextPc = v + 4 := rfl

/-! ### advance -/

@[simp] theorem State.advance_regs : (s.advance).regs = s.regs := rfl
@[simp] theorem State.advance_pc : (s.advance).pc = s.nextPc := rfl
@[simp] theorem State.advance_sp : (s.advance).sp = s.sp := rfl
@[simp] theorem State.advance_flags : (s.advance).flags = s.flags := rfl
@[simp] theorem State.advance_bgc : (s.advance).bgc = s.bgc := rfl
@[simp] theorem State.advance_sprW : (s.advance).sprW = s.sprW := rfl
@[simp] theorem State.advance_sprH : (s.advance).sprH = s.sprH := rfl
@[simp] theorem State.advance_hflip : (s.advance).hflip = s.hflip := rfl
@[simp] theorem State.advance_vflip : (s.advance).vflip = s.vflip := rfl
@[simp] theorem State.advance_envA : (s.advance).envA = s.envA := rfl
@[simp] theorem State.advance_envD : (s.advance).envD = s.envD := rfl
@[simp] theorem State.advance_envS : (s.advance).envS = s.envS := rfl
@[simp] theorem State.advance_envR : (s.advance).envR = s.envR := rfl
@[simp] theorem State.advance_rng : (s.advance).rng = s.rng := rfl
@[simp] theorem State.advance_mem : (s.advance).mem = s.mem := rfl
@[simp] theorem State.advance_result : (s.advance).result = s.result := rfl
@[simp] theorem State.advance_calls : (s.advance).calls = s.calls := rfl

@[simp] theorem State.advance_reg (y : Reg) : (s.advance).reg y = s.reg y := rfl
@[simp] theorem State.advance_nextPc : (s.advance).nextPc = s.nextPc + 4 := rfl

/-! ### setSp -/

@[simp] theorem State.setSp_regs (v : Word) : (s.setSp v).regs = s.regs := rfl
@[simp] theorem State.setSp_pc (v : Word) : (s.setSp v).pc = s.pc := rfl
@[simp] theorem State.setSp_sp (v : Word) : (s.setSp v).sp = v := rfl
@[simp] theorem State.setSp_flags (v : Word) : (s.setSp v).flags = s.flags := rfl
@[simp] theorem State.setSp_bgc (v : Word) : (s.setSp v).bgc = s.bgc := rfl
@[simp] theorem State.setSp_sprW (v : Word) : (s.setSp v).sprW = s.sprW := rfl
@[simp] theorem State.setSp_sprH (v : Word) : (s.setSp v).sprH = s.sprH := rfl
@[simp] theorem State.setSp_hflip (v : Word) : (s.setSp v).hflip = s.hflip := rfl
@[simp] theorem State.setSp_vflip (v : Word) : (s.setSp v).vflip = s.vflip := rfl
@[simp] theorem State.setSp_envA (v : Word) : (s.setSp v).envA = s.envA := rfl
@[simp] theorem State.setSp_envD (v : Word) : (s.setSp v).envD = s.envD := rfl
@[simp] theorem State.setSp_envS (v : Word) : (s.setSp v).envS = s.envS := rfl
@[simp] theorem State.setSp_envR (v : Word) : (s.setSp v).envR = s.envR := rfl
@[simp] theorem State.setSp_rng (v : Word) : (s.setSp v).rng = s.rng := rfl
@[simp] theorem State.setSp_mem (v : Word) : (s.setSp v).mem = s.mem := rfl
@[simp] theorem State.setSp_result (v : Word) : (s.setSp v).result = s.result := rfl
@[simp] theorem State.setSp_calls (v : Word) : (s.setSp v).calls = s.calls := rfl

@[simp] theorem State.setSp_reg (v : Word) (y : Reg) : (s.setSp v).reg y = s.reg y := rfl
@[simp] theorem State.setSp_nextPc (v : Word) : (s.setSp v).nextPc = s.nextPc := rfl

/-! ### setFlags -/

@[simp] theorem State.setFlags_regs (f : Flags) : (s.setFlags f).regs = s.regs := rfl
@[simp] theorem State.setFlags_pc (f : Flags) : (s.setFlags f).pc = s.pc := rfl
@[simp] theorem State.setFlags_sp (f : Flags) : (s.setFlags f).sp = s.sp := rfl
@[simp] theorem State.setFlags_flags (f : Flags) : (s.setFlags f).flags = f := rfl
@[simp] theorem State.setFlags_bgc (f : Flags) : (s.setFlags f).bgc = s.bgc := rfl
@[simp] theorem State.setFlags_sprW (f : Flags) : (s.setFlags f).sprW = s.sprW := rfl
@[simp] theorem State.setFlags_sprH (f : Flags) : (s.setFlags f).sprH = s.sprH := rfl
@[simp] theorem State.setFlags_hflip (f : Flags) : (s.setFlags f).hflip = s.hflip := rfl
@[simp] theorem State.setFlags_vflip (f : Flags) : (s.setFlags f).vflip = s.vflip := rfl
@[simp] theorem State.setFlags_envA (f : Flags) : (s.setFlags f).envA = s.envA := rfl
@[simp] theorem State.setFlags_envD (f : Flags) : (s.setFlags f).envD = s.envD := rfl
@[simp] theorem State.setFlags_envS (f : Flags) : (s.setFlags f).envS = s.envS := rfl
@[simp] theorem State.setFlags_envR (f : Flags) : (s.setFlags f).envR = s.envR := rfl
@[simp] theorem State.setFlags_rng (f : Flags) : (s.setFlags f).rng = s.rng := rfl
@[simp] theorem State.setFlags_mem (f : Flags) : (s.setFlags f).mem = s.mem := rfl
@[simp] theorem State.setFlags_result (f : Flags) : (s.setFlags f).result = s.result := rfl
@[simp] theorem State.setFlags_calls (f : Flags) : (s.setFlags f).calls = s.calls := rfl

@[simp] theorem State.setFlags_reg (f : Flags) (y : Reg) : (s.setFlags f).reg y = s.reg y := rfl
@[simp] theorem State.setFlags_nextPc (f : Flags) : (s.setFlags f).nextPc = s.nextPc := rfl

/-! ### setMem -/

@[simp] theorem State.setMem_regs (m : Memory) : (s.setMem m).regs = s.regs := rfl
@[simp] theorem State.setMem_pc (m : Memory) : (s.setMem m).pc = s.pc := rfl
@[simp] theorem State.setMem_sp (m : Memory) : (s.setMem m).sp = s.sp := rfl
@[simp] theorem State.setMem_flags (m : Memory) : (s.setMem m).flags = s.flags := rfl
@[simp] theorem State.setMem_bgc (m : Memory) : (s.setMem m).bgc = s.bgc := rfl
@[simp] theorem State.setMem_sprW (m : Memory) : (s.setMem m).sprW = s.sprW := rfl
@[simp] theorem State.setMem_sprH (m : Memory) : (s.setMem m).sprH = s.sprH := rfl
@[simp] theorem State.setMem_hflip (m : Memory) : (s.setMem m).hflip = s.hflip := rfl
@[simp] theorem State.setMem_vflip (m : Memory) : (s.setMem m).vflip = s.vflip := rfl
@[simp] theorem State.setMem_envA (m : Memory) : (s.setMem m).envA = s.envA := rfl
@[simp] theorem State.setMem_envD (m : Memory) : (s.setMem m).envD = s.envD := rfl
@[simp] theorem State.setMem_envS (m : Memory) : (s.setMem m).envS = s.envS := rfl
@[simp] theorem State.setMem_envR (m : Memory) : (s.setMem m).envR = s.envR := rfl
@[simp] theorem State.setMem_rng (m : Memory) : (s.setMem m).rng = s.rng := rfl
@[simp] theorem State.setMem_mem (m : Memory) : (s.setMem m).mem = m := rfl
@[simp] theorem State.setMem_result (m : Memory) : (s.setMem m).result = s.result := rfl
@[simp] theorem State.setMem_calls (m : Memory) : (s.setMem m).calls = s.calls := rfl

@[simp] theorem State.setMem_reg (m : Memory) (y : Reg) : (s.setMem m).reg y = s.reg y := rfl
@[simp] theorem State.setMem_nextPc (m : Memory) : (s.setMem m).nextPc = s.nextPc := rfl

/-! ### setBgc -/

@[simp] theorem State.setBgc_regs (v : Byte) : (s.setBgc v).regs = s.regs := rfl
@[simp] theorem State.setBgc_pc (v : Byte) : (s.setBgc v).pc = s.pc := rfl
@[simp] theorem State.setBgc_sp (v : Byte) : (s.setBgc v).sp = s.sp := rfl
@[simp] theorem State.setBgc_flags (v : Byte) : (s.setBgc v).flags = s.flags := rfl
@[simp] theorem State.setBgc_bgc (v : Byte) : (s.setBgc v).bgc = v := rfl
@[simp] theorem State.setBgc_sprW (v : Byte) : (s.setBgc v).sprW = s.sprW := rfl
@[simp] theorem State.setBgc_sprH (v : Byte) : (s.setBgc v).sprH = s.sprH := rfl
@[simp] theorem State.setBgc_hflip (v : Byte) : (s.setBgc v).hflip = s.hflip := rfl
@[simp] theorem State.setBgc_vflip (v : Byte) : (s.setBgc v).vflip = s.vflip := rfl
@[simp] theorem State.setBgc_envA (v : Byte) : (s.setBgc v).envA = s.envA := rfl
@[simp] theorem State.setBgc_envD (v : Byte) : (s.setBgc v).envD = s.envD := rfl
@[simp] theorem State.setBgc_envS (v : Byte) : (s.setBgc v).envS = s.envS := rfl
@[simp] theorem State.setBgc_envR (v : Byte) : (s.setBgc v).envR = s.envR := rfl
@[simp] theorem State.setBgc_rng (v : Byte) : (s.setBgc v).rng = s.rng := rfl
@[simp] theorem State.setBgc_mem (v : Byte) : (s.setBgc v).mem = s.mem := rfl
@[simp] theorem State.setBgc_result (v : Byte) : (s.setBgc v).result = s.result := rfl
@[simp] theorem State.setBgc_calls (v : Byte) : (s.setBgc v).calls = s.calls := rfl

@[simp] theorem State.setBgc_reg (v : Byte) (y : Reg) : (s.setBgc v).reg y = s.reg y := rfl
@[simp] theorem State.setBgc_nextPc (v : Byte) : (s.setBgc v).nextPc = s.nextPc := rfl

/-! ### setSpr -/

@[simp] theorem State.setSpr_regs (w h : Byte) : (s.setSpr w h).regs = s.regs := rfl
@[simp] theorem State.setSpr_pc (w h : Byte) : (s.setSpr w h).pc = s.pc := rfl
@[simp] theorem State.setSpr_sp (w h : Byte) : (s.setSpr w h).sp = s.sp := rfl
@[simp] theorem State.setSpr_flags (w h : Byte) : (s.setSpr w h).flags = s.flags := rfl
@[simp] theorem State.setSpr_bgc (w h : Byte) : (s.setSpr w h).bgc = s.bgc := rfl
@[simp] theorem State.setSpr_sprW (w h : Byte) : (s.setSpr w h).sprW = w := rfl
@[simp] theorem State.setSpr_sprH (w h : Byte) : (s.setSpr w h).sprH = h := rfl
@[simp] theorem State.setSpr_hflip (w h : Byte) : (s.setSpr w h).hflip = s.hflip := rfl
@[simp] theorem State.setSpr_vflip (w h : Byte) : (s.setSpr w h).vflip = s.vflip := rfl
@[simp] theorem State.setSpr_envA (w h : Byte) : (s.setSpr w h).envA = s.envA := rfl
@[simp] theorem State.setSpr_envD (w h : Byte) : (s.setSpr w h).envD = s.envD := rfl
@[simp] theorem State.setSpr_envS (w h : Byte) : (s.setSpr w h).envS = s.envS := rfl
@[simp] theorem State.setSpr_envR (w h : Byte) : (s.setSpr w h).envR = s.envR := rfl
@[simp] theorem State.setSpr_rng (w h : Byte) : (s.setSpr w h).rng = s.rng := rfl
@[simp] theorem State.setSpr_mem (w h : Byte) : (s.setSpr w h).mem = s.mem := rfl
@[simp] theorem State.setSpr_result (w h : Byte) : (s.setSpr w h).result = s.result := rfl
@[simp] theorem State.setSpr_calls (w h : Byte) : (s.setSpr w h).calls = s.calls := rfl

@[simp] theorem State.setSpr_reg (w h : Byte) (y : Reg) : (s.setSpr w h).reg y = s.reg y := rfl
@[simp] theorem State.setSpr_nextPc (w h : Byte) : (s.setSpr w h).nextPc = s.nextPc := rfl

/-! ### setFlip -/

@[simp] theorem State.setFlip_regs (h v : Bool) : (s.setFlip h v).regs = s.regs := rfl
@[simp] theorem State.setFlip_pc (h v : Bool) : (s.setFlip h v).pc = s.pc := rfl
@[simp] theorem State.setFlip_sp (h v : Bool) : (s.setFlip h v).sp = s.sp := rfl
@[simp] theorem State.setFlip_flags (h v : Bool) : (s.setFlip h v).flags = s.flags := rfl
@[simp] theorem State.setFlip_bgc (h v : Bool) : (s.setFlip h v).bgc = s.bgc := rfl
@[simp] theorem State.setFlip_sprW (h v : Bool) : (s.setFlip h v).sprW = s.sprW := rfl
@[simp] theorem State.setFlip_sprH (h v : Bool) : (s.setFlip h v).sprH = s.sprH := rfl
@[simp] theorem State.setFlip_hflip (h v : Bool) : (s.setFlip h v).hflip = h := rfl
@[simp] theorem State.setFlip_vflip (h v : Bool) : (s.setFlip h v).vflip = v := rfl
@[simp] theorem State.setFlip_envA (h v : Bool) : (s.setFlip h v).envA = s.envA := rfl
@[simp] theorem State.setFlip_envD (h v : Bool) : (s.setFlip h v).envD = s.envD := rfl
@[simp] theorem State.setFlip_envS (h v : Bool) : (s.setFlip h v).envS = s.envS := rfl
@[simp] theorem State.setFlip_envR (h v : Bool) : (s.setFlip h v).envR = s.envR := rfl
@[simp] theorem State.setFlip_rng (h v : Bool) : (s.setFlip h v).rng = s.rng := rfl
@[simp] theorem State.setFlip_mem (h v : Bool) : (s.setFlip h v).mem = s.mem := rfl
@[simp] theorem State.setFlip_result (h v : Bool) : (s.setFlip h v).result = s.result := rfl
@[simp] theorem State.setFlip_calls (h v : Bool) : (s.setFlip h v).calls = s.calls := rfl

@[simp] theorem State.setFlip_reg (h v : Bool) (y : Reg) : (s.setFlip h v).reg y = s.reg y := rfl
@[simp] theorem State.setFlip_nextPc (h v : Bool) : (s.setFlip h v).nextPc = s.nextPc := rfl

/-! ### setEnv -/

@[simp] theorem State.setEnv_regs (a d sus rel : Nibble) : (s.setEnv a d sus rel).regs = s.regs := rfl
@[simp] theorem State.setEnv_pc (a d sus rel : Nibble) : (s.setEnv a d sus rel).pc = s.pc := rfl
@[simp] theorem State.setEnv_sp (a d sus rel : Nibble) : (s.setEnv a d sus rel).sp = s.sp := rfl
@[simp] theorem State.setEnv_flags (a d sus rel : Nibble) : (s.setEnv a d sus rel).flags = s.flags := rfl
@[simp] theorem State.setEnv_bgc (a d sus rel : Nibble) : (s.setEnv a d sus rel).bgc = s.bgc := rfl
@[simp] theorem State.setEnv_sprW (a d sus rel : Nibble) : (s.setEnv a d sus rel).sprW = s.sprW := rfl
@[simp] theorem State.setEnv_sprH (a d sus rel : Nibble) : (s.setEnv a d sus rel).sprH = s.sprH := rfl
@[simp] theorem State.setEnv_hflip (a d sus rel : Nibble) : (s.setEnv a d sus rel).hflip = s.hflip := rfl
@[simp] theorem State.setEnv_vflip (a d sus rel : Nibble) : (s.setEnv a d sus rel).vflip = s.vflip := rfl
@[simp] theorem State.setEnv_envA (a d sus rel : Nibble) : (s.setEnv a d sus rel).envA = a := rfl
@[simp] theorem State.setEnv_envD (a d sus rel : Nibble) : (s.setEnv a d sus rel).envD = d := rfl
@[simp] theorem State.setEnv_envS (a d sus rel : Nibble) : (s.setEnv a d sus rel).envS = sus := rfl
@[simp] theorem State.setEnv_envR (a d sus rel : Nibble) : (s.setEnv a d sus rel).envR = rel := rfl
@[simp] theorem State.setEnv_rng (a d sus rel : Nibble) : (s.setEnv a d sus rel).rng = s.rng := rfl
@[simp] theorem State.setEnv_mem (a d sus rel : Nibble) : (s.setEnv a d sus rel).mem = s.mem := rfl
@[simp] theorem State.setEnv_result (a d sus rel : Nibble) : (s.setEnv a d sus rel).result = s.result := rfl
@[simp] theorem State.setEnv_calls (a d sus rel : Nibble) : (s.setEnv a d sus rel).calls = s.calls := rfl

@[simp] theorem State.setEnv_reg (a d sus rel : Nibble) (y : Reg) : (s.setEnv a d sus rel).reg y = s.reg y := rfl
@[simp] theorem State.setEnv_nextPc (a d sus rel : Nibble) : (s.setEnv a d sus rel).nextPc = s.nextPc := rfl

/-! ### setRng -/

@[simp] theorem State.setRng_regs (g : Config.RngState) : (s.setRng g).regs = s.regs := rfl
@[simp] theorem State.setRng_pc (g : Config.RngState) : (s.setRng g).pc = s.pc := rfl
@[simp] theorem State.setRng_sp (g : Config.RngState) : (s.setRng g).sp = s.sp := rfl
@[simp] theorem State.setRng_flags (g : Config.RngState) : (s.setRng g).flags = s.flags := rfl
@[simp] theorem State.setRng_bgc (g : Config.RngState) : (s.setRng g).bgc = s.bgc := rfl
@[simp] theorem State.setRng_sprW (g : Config.RngState) : (s.setRng g).sprW = s.sprW := rfl
@[simp] theorem State.setRng_sprH (g : Config.RngState) : (s.setRng g).sprH = s.sprH := rfl
@[simp] theorem State.setRng_hflip (g : Config.RngState) : (s.setRng g).hflip = s.hflip := rfl
@[simp] theorem State.setRng_vflip (g : Config.RngState) : (s.setRng g).vflip = s.vflip := rfl
@[simp] theorem State.setRng_envA (g : Config.RngState) : (s.setRng g).envA = s.envA := rfl
@[simp] theorem State.setRng_envD (g : Config.RngState) : (s.setRng g).envD = s.envD := rfl
@[simp] theorem State.setRng_envS (g : Config.RngState) : (s.setRng g).envS = s.envS := rfl
@[simp] theorem State.setRng_envR (g : Config.RngState) : (s.setRng g).envR = s.envR := rfl
@[simp] theorem State.setRng_rng (g : Config.RngState) : (s.setRng g).rng = g := rfl
@[simp] theorem State.setRng_mem (g : Config.RngState) : (s.setRng g).mem = s.mem := rfl
@[simp] theorem State.setRng_result (g : Config.RngState) : (s.setRng g).result = s.result := rfl
@[simp] theorem State.setRng_calls (g : Config.RngState) : (s.setRng g).calls = s.calls := rfl

@[simp] theorem State.setRng_reg (g : Config.RngState) (y : Reg) : (s.setRng g).reg y = s.reg y := rfl
@[simp] theorem State.setRng_nextPc (g : Config.RngState) : (s.setRng g).nextPc = s.nextPc := rfl

/-! ### setResult -/

@[simp] theorem State.setResult_regs (r : StepResult) : (s.setResult r).regs = s.regs := rfl
@[simp] theorem State.setResult_pc (r : StepResult) : (s.setResult r).pc = s.pc := rfl
@[simp] theorem State.setResult_sp (r : StepResult) : (s.setResult r).sp = s.sp := rfl
@[simp] theorem State.setResult_flags (r : StepResult) : (s.setResult r).flags = s.flags := rfl
@[simp] theorem State.setResult_bgc (r : StepResult) : (s.setResult r).bgc = s.bgc := rfl
@[simp] theorem State.setResult_sprW (r : StepResult) : (s.setResult r).sprW = s.sprW := rfl
@[simp] theorem State.setResult_sprH (r : StepResult) : (s.setResult r).sprH = s.sprH := rfl
@[simp] theorem State.setResult_hflip (r : StepResult) : (s.setResult r).hflip = s.hflip := rfl
@[simp] theorem State.setResult_vflip (r : StepResult) : (s.setResult r).vflip = s.vflip := rfl
@[simp] theorem State.setResult_envA (r : StepResult) : (s.setResult r).envA = s.envA := rfl
@[simp] theorem State.setResult_envD (r : StepResult) : (s.setResult r).envD = s.envD := rfl
@[simp] theorem State.setResult_envS (r : StepResult) : (s.setResult r).envS = s.envS := rfl
@[simp] theorem State.setResult_envR (r : StepResult) : (s.setResult r).envR = s.envR := rfl
@[simp] theorem State.setResult_rng (r : StepResult) : (s.setResult r).rng = s.rng := rfl
@[simp] theorem State.setResult_mem (r : StepResult) : (s.setResult r).mem = s.mem := rfl
@[simp] theorem State.setResult_result (r : StepResult) : (s.setResult r).result = r := rfl
@[simp] theorem State.setResult_calls (r : StepResult) : (s.setResult r).calls = s.calls := rfl

@[simp] theorem State.setResult_reg (r : StepResult) (y : Reg) : (s.setResult r).reg y = s.reg y := rfl
@[simp] theorem State.setResult_nextPc (r : StepResult) : (s.setResult r).nextPc = s.nextPc := rfl

/-! ### emitAll -/

@[simp] theorem State.emitAll_regs (cs : List Call) : (s.emitAll cs).regs = s.regs := rfl
@[simp] theorem State.emitAll_pc (cs : List Call) : (s.emitAll cs).pc = s.pc := rfl
@[simp] theorem State.emitAll_sp (cs : List Call) : (s.emitAll cs).sp = s.sp := rfl
@[simp] theorem State.emitAll_flags (cs : List Call) : (s.emitAll cs).flags = s.flags := rfl
@[simp] theorem State.emitAll_bgc (cs : List Call) : (s.emitAll cs).bgc = s.bgc := rfl
@[simp] theorem State.emitAll_sprW (cs : List Call) : (s.emitAll cs).sprW = s.sprW := rfl
@[simp] theorem State.emitAll_sprH (cs : List Call) : (s.emitAll cs).sprH = s.sprH := rfl
@[simp] theorem State.emitAll_hflip (cs : List Call) : (s.emitAll cs).hflip = s.hflip := rfl
@[simp] theorem State.emitAll_vflip (cs : List Call) : (s.emitAll cs).vflip = s.vflip := rfl
@[simp] theorem State.emitAll_envA (cs : List Call) : (s.emitAll cs).envA = s.envA := rfl
@[simp] theorem State.emitAll_envD (cs : List Call) : (s.emitAll cs).envD = s.envD := rfl
@[simp] theorem State.emitAll_envS (cs : List Call) : (s.emitAll cs).envS = s.envS := rfl
@[simp] theorem State.emitAll_envR (cs : List Call) : (s.emitAll cs).envR = s.envR := rfl
@[simp] theorem State.emitAll_rng (cs : List Call) : (s.emitAll cs).rng = s.rng := rfl
@[simp] theorem State.emitAll_mem (cs : List Call) : (s.emitAll cs).mem = s.mem := rfl
@[simp] theorem State.emitAll_result (cs : List Call) : (s.emitAll cs).result = s.result := rfl
@[simp] theorem State.emitAll_calls (cs : List Call) : (s.emitAll cs).calls = s.calls ++ cs := rfl

@[simp] theorem State.emitAll_reg (cs : List Call) (y : Reg) : (s.emitAll cs).reg y = s.reg y := rfl
@[simp] theorem State.emitAll_nextPc (cs : List Call) : (s.emitAll cs).nextPc = s.nextPc := rfl

/-! ### emit -/

@[simp] theorem State.emit_regs (c : Call) : (s.emit c).regs = s.regs := rfl
@[simp] theorem State.emit_pc (c : Call) : (s.emit c).pc = s.pc := rfl
@[simp] theorem State.emit_sp (c : Call) : (s.emit c).sp = s.sp := rfl
@[simp] theorem State.emit_flags (c : Call) : (s.emit c).flags = s.flags := rfl
@[simp] theorem State.emit_bgc (c : Call) : (s.emit c).bgc = s.bgc := rfl
@[simp] theorem State.emit_sprW (c : Call) : (s.emit c).sprW = s.sprW := rfl
@[simp] theorem State.emit_sprH (c : Call) : (s.emit c).sprH = s.sprH := rfl
@[simp] theorem State.emit_hflip (c : Call) : (s.emit c).hflip = s.hflip := rfl
@[simp] theorem State.emit_vflip (c : Call) : (s.emit c).vflip = s.vflip := rfl
@[simp] theorem State.emit_envA (c : Call) : (s.emit c).envA = s.envA := rfl
@[simp] theorem State.emit_envD (c : Call) : (s.emit c).envD = s.envD := rfl
@[simp] theorem State.emit_envS (c : Call) : (s.emit c).envS = s.envS := rfl
@[simp] theorem State.emit_envR (c : Call) : (s.emit c).envR = s.envR := rfl
@[simp] theorem State.emit_rng (c : Call) : (s.emit c).rng = s.rng := rfl
@[simp] theorem State.emit_mem (c : Call) : (s.emit c).mem = s.mem := rfl
@[simp] theorem State.emit_result (c : Call) : (s.emit c).result = s.result := rfl
@[simp] theorem State.emit_calls (c : Call) : (s.emit c).calls = s.calls ++ [c] := rfl

@[simp] theorem State.emit_reg (c : Call) (y : Reg) : (s.emit c).reg y = s.reg y := rfl
@[simp] theorem State.emit_nextPc (c : Call) : (s.emit c).nextPc = s.nextPc := rfl

/-! ### beginStep -/

@[simp] theorem State.beginStep_regs : (s.beginStep).regs = s.regs := rfl
@[simp] theorem State.beginStep_pc : (s.beginStep).pc = s.pc := rfl
@[simp] theorem State.beginStep_sp : (s.beginStep).sp = s.sp := rfl
@[simp] theorem State.beginStep_flags : (s.beginStep).flags = s.flags := rfl
@[simp] theorem State.beginStep_bgc : (s.beginStep).bgc = s.bgc := rfl
@[simp] theorem State.beginStep_sprW : (s.beginStep).sprW = s.sprW := rfl
@[simp] theorem State.beginStep_sprH : (s.beginStep).sprH = s.sprH := rfl
@[simp] theorem State.beginStep_hflip : (s.beginStep).hflip = s.hflip := rfl
@[simp] theorem State.beginStep_vflip : (s.beginStep).vflip = s.vflip := rfl
@[simp] theorem State.beginStep_envA : (s.beginStep).envA = s.envA := rfl
@[simp] theorem State.beginStep_envD : (s.beginStep).envD = s.envD := rfl
@[simp] theorem State.beginStep_envS : (s.beginStep).envS = s.envS := rfl
@[simp] theorem State.beginStep_envR : (s.beginStep).envR = s.envR := rfl
@[simp] theorem State.beginStep_rng : (s.beginStep).rng = s.rng := rfl
@[simp] theorem State.beginStep_mem : (s.beginStep).mem = s.mem := rfl
@[simp] theorem State.beginStep_result : (s.beginStep).result = .ok := rfl
@[simp] theorem State.beginStep_calls : (s.beginStep).calls = s.calls := rfl

@[simp] theorem State.beginStep_reg (y : Reg) : (s.beginStep).reg y = s.reg y := rfl
@[simp] theorem State.beginStep_nextPc : (s.beginStep).nextPc = s.nextPc := rfl

/-! ### The core's state and the output records -/

@[simp] theorem State.setResult_toCoreState (r : StepResult) :
    (s.setResult r).toCoreState = s.toCoreState := rfl
@[simp] theorem State.emitAll_toCoreState (cs : List Call) :
    (s.emitAll cs).toCoreState = s.toCoreState := rfl
@[simp] theorem State.emit_toCoreState (c : Call) : (s.emit c).toCoreState = s.toCoreState := rfl
@[simp] theorem State.beginStep_toCoreState : (s.beginStep).toCoreState = s.toCoreState := rfl

@[simp] theorem CoreState.begin_toCoreState (c : CoreState) : c.begin.toCoreState = c := rfl
@[simp] theorem CoreState.begin_result (c : CoreState) : c.begin.result = .ok := rfl
@[simp] theorem CoreState.begin_calls (c : CoreState) : c.begin.calls = [] := rfl
@[simp] theorem CoreState.begin_beginStep (c : CoreState) : c.begin.beginStep = c.begin := rfl

/-- A state is the core's state with its two records on it. -/
theorem State.eq_begin : s = (s.toCoreState.begin.emitAll s.calls).setResult s.result := rfl

/-! ### Registers -/

/-- A register reads back what was last written to it (10 R30). -/
@[simp] theorem State.reg_setReg_same (x : Reg) (v : Word) : (s.setReg x v).reg x = v := by
  simp [State.reg, State.setReg]

/-- Writing a register changes no other register (10 R30). -/
theorem State.reg_setReg_other (x y : Reg) (v : Word) (h : y ≠ x) :
    (s.setReg x v).reg y = s.reg y := by
  have : x.val ≠ y.val := fun e => h (Fin.ext e.symm)
  simp [State.reg, State.setReg, this]

@[simp] theorem State.reg_setRegs (v : Vector Word 16) (y : Reg) : (s.setRegs v).reg y = v[y] := rfl

/-- At reset every register is 0 (10 R32). -/
@[simp] theorem State.reg_reset (x : Reg) : State.reset.reg x = 0 := by
  simp [State.reg, State.reset]

end Sys2Proof.Machine
end

