-- ==== Sys2Proof/Laws/Memory.lean ====
section
/-! SUPPORT. Memory: reading after writing, and the canonical form. -/

namespace Sys2Proof.Machine

/-! ### Bytes -/

theorem readByte_eraseByte_same (m : Memory) (a : Nat) :
    readByte (eraseByte m a) a = unlistedByte := by
  induction m with
  | nil => rfl
  | cons p rest ih =>
    obtain ⟨k, b⟩ := p
    by_cases h : k = a
    · simpa [eraseByte, h] using ih
    · simpa [eraseByte, h, readByte] using ih

theorem readByte_eraseByte_other (m : Memory) (a b : Nat) (h : b ≠ a) :
    readByte (eraseByte m a) b = readByte m b := by
  induction m with
  | nil => rfl
  | cons p rest ih =>
    obtain ⟨k, v⟩ := p
    by_cases hk : k = a
    · have hb : ¬ a = b := fun e => h e.symm
      simpa [eraseByte, hk, readByte, hb] using ih
    · by_cases hb : k = b
      · simp [eraseByte, readByte, hb, h]
      · simpa [eraseByte, hk, readByte, hb] using ih

theorem readByte_insertByte (m : Memory) (a b : Nat) (v : Byte)
    (h : ∀ p ∈ m, p.1 ≠ a) :
    readByte (insertByte m a v) b = if b = a then v else readByte m b := by
  induction m with
  | nil => simp [insertByte, readByte, eq_comm]
  | cons p rest ih =>
    obtain ⟨k, c⟩ := p
    have hk : k ≠ a := h (k, c) (by simp)
    have hr := ih (fun q hq => h q (by simp [hq]))
    by_cases hlt : a < k
    · simp [insertByte, hlt, readByte, eq_comm (a := a)]
    · by_cases hkb : k = b
      · subst hkb
        simp [insertByte, hlt, readByte, hk]
      · simp [insertByte, hlt, readByte, hkb, hr]

theorem eraseByte_addresses (m : Memory) (a : Nat) : ∀ p ∈ eraseByte m a, p.1 ≠ a := by
  intro p hp
  simpa [eraseByte] using (List.mem_filter.mp hp).2

/-- Reading a byte after writing one (20 R83). -/
theorem readByte_writeByte (m : Memory) (a b : Nat) (v : Byte) :
    readByte (writeByte m a v) b = if b = a then v else readByte m b := by
  unfold writeByte
  split
  · next h =>
    by_cases hb : b = a
    · simp [hb, h, readByte_eraseByte_same]
    · simp [hb, readByte_eraseByte_other _ _ _ hb]
  · rw [readByte_insertByte _ _ _ _ (eraseByte_addresses m a)]
    by_cases hb : b = a
    · simp [hb]
    · simp [hb, readByte_eraseByte_other _ _ _ hb]

@[simp] theorem readByte_writeByte_same (m : Memory) (a : Nat) (v : Byte) :
    readByte (writeByte m a v) a = v := by simp [readByte_writeByte]

theorem readByte_writeByte_other (m : Memory) (a b : Nat) (v : Byte) (h : b ≠ a) :
    readByte (writeByte m a v) b = readByte m b := by simp [readByte_writeByte, h]

/-! ### Words -/

@[simp] theorem readByte_writeWord_high (m : Memory) (a : Nat) (v : Word) :
    readByte (writeWord m a v) a = v.extractLsb' 8 8 := by
  simp [writeWord, readByte_writeByte]

@[simp] theorem readByte_writeWord_low (m : Memory) (a : Nat) (v : Word) :
    readByte (writeWord m a v) (a + 1) = v.extractLsb' 0 8 := by
  simp [writeWord]

theorem readByte_writeWord_other (m : Memory) (a b : Nat) (v : Word) (h : b < a ∨ a + 2 ≤ b) :
    readByte (writeWord m a v) b = readByte m b := by
  have h1 : b ≠ a + 1 := by omega
  have h2 : b ≠ a := by omega
  simp [writeWord, readByte_writeByte, h1, h2]

theorem join_bytes (v : Word) : v.extractLsb' 8 8 ++ v.extractLsb' 0 8 = v := by
  ext i hi
  simp only [BitVec.getElem_append, BitVec.getElem_extractLsb']
  by_cases h : i < 8
  · simp [h, BitVec.getLsbD_eq_getElem, hi]
  · simp only [h, dite_false]
    rw [BitVec.getLsbD_eq_getElem (by omega)]
    congr 1
    omega

@[simp] theorem readWord_writeWord_same (m : Memory) (a : Nat) (v : Word) :
    readWord (writeWord m a v) a = v := by
  simp only [readWord, readByte_writeWord_high, readByte_writeWord_low]
  exact join_bytes v

theorem readWord_writeWord_other (m : Memory) (a b : Nat) (v : Word)
    (h : b + 2 ≤ a ∨ a + 2 ≤ b) : readWord (writeWord m a v) b = readWord m b := by
  rw [readWord, readWord, readByte_writeWord_other _ _ _ _ (by omega),
    readByte_writeWord_other _ _ _ _ (by omega)]

/-- A word's value is its high byte times 256 plus its low byte (20 R71). -/
theorem readWord_toNat (m : Memory) (a : Nat) :
    (readWord m a).toNat = (readByte m a).toNat * 256 + (readByte m (a + 1)).toNat := by
  have h := (readByte m (a + 1)).isLt
  rw [readWord, BitVec.toNat_append, ← Nat.shiftLeft_add_eq_or_of_lt h, Nat.shiftLeft_eq]

theorem readQuad_toNat (m : Memory) (a : Nat) :
    (readQuad m a).toNat = (readWord m a).toNat * 65536 + (readWord m (a + 2)).toNat := by
  have h := (readWord m (a + 2)).isLt
  rw [readQuad, BitVec.toNat_append, ← Nat.shiftLeft_add_eq_or_of_lt h, Nat.shiftLeft_eq]

/-- A 32-bit store reads back as the word stored. -/
theorem readQuad_writeQuad (m : Memory) (a : Nat) (v : InstrWord) :
    readQuad (writeQuad m a v) a = v := by
  rw [readQuad, writeQuad, readWord_writeWord_other _ _ _ _ (by omega), readWord_writeWord_same,
    readWord_writeWord_same]
  ext i hi
  simp only [BitVec.getElem_append, BitVec.getElem_extractLsb']
  by_cases h : i < 16
  · simp [h, BitVec.getLsbD_eq_getElem, hi]
  · simp only [h, dite_false]
    rw [BitVec.getLsbD_eq_getElem (by omega)]
    congr 1
    omega

theorem readByte_writeQuad_other (m : Memory) (a b : Nat) (v : InstrWord)
    (h : b < a ∨ a + 4 ≤ b) : readByte (writeQuad m a v) b = readByte m b := by
  rw [writeQuad, readByte_writeWord_other _ _ _ _ (by omega),
    readByte_writeWord_other _ _ _ _ (by omega)]

/-! ### The canonical form -/

theorem wf_nil : Memory.wf [] := by simp [Memory.wf]

theorem wf_reset : Memory.wf State.reset.mem := wf_nil

theorem wf_eraseByte (m : Memory) (a : Nat) (h : Memory.wf m) : Memory.wf (eraseByte m a) :=
  ⟨h.1.filter _, fun p hp => h.2 p (List.mem_of_mem_filter hp)⟩

theorem mem_insertByte (m : Memory) (a : Nat) (v : Byte) (p : Host.Cell) :
    p ∈ insertByte m a v ↔ p = (a, v) ∨ p ∈ m := by
  induction m with
  | nil => simp [insertByte]
  | cons q rest ih =>
    obtain ⟨k, b⟩ := q
    by_cases h : a < k
    · simp [insertByte, h]
    · simp only [insertByte, h, if_false, List.mem_cons, ih]
      tauto

theorem wf_insertByte (m : Memory) (a : Nat) (v : Byte) (h : Memory.wf m)
    (hne : ∀ p ∈ m, p.1 ≠ a) (ha : a < Config.memSize) (hv : v ≠ unlistedByte) :
    Memory.wf (insertByte m a v) := by
  refine ⟨?_, fun p hp => ?_⟩
  · induction m with
    | nil => simp [insertByte]
    | cons q rest ih =>
      obtain ⟨k, b⟩ := q
      have hs := List.pairwise_cons.mp h.1
      by_cases hlt : a < k
      · simp only [insertByte, hlt, if_true]
        refine List.pairwise_cons.mpr ⟨fun p hp => ?_, h.1⟩
        rcases List.mem_cons.mp hp with rfl | hp
        · exact hlt
        · exact Nat.lt_trans hlt (hs.1 p hp)
      · have hk : k ≠ a := hne (k, b) (by simp)
        simp only [insertByte, hlt, if_false]
        refine List.pairwise_cons.mpr ⟨fun p hp => ?_, ?_⟩
        · rcases (mem_insertByte _ _ _ _).mp hp with rfl | hp
          · simp only; omega
          · exact hs.1 p hp
        · exact ih ⟨hs.2, fun p hp => h.2 p (by simp [hp])⟩ (fun p hp => hne p (by simp [hp]))
  · rcases (mem_insertByte _ _ _ _).mp hp with rfl | hp
    · exact ⟨ha, hv⟩
    · exact h.2 p hp

/-- A byte store inside memory keeps the canonical form. -/
theorem wf_writeByte (m : Memory) (a : Nat) (v : Byte) (h : Memory.wf m)
    (ha : a < Config.memSize) : Memory.wf (writeByte m a v) := by
  unfold writeByte
  split
  · exact wf_eraseByte m a h
  · next hv => exact wf_insertByte _ a v (wf_eraseByte m a h) (eraseByte_addresses m a) ha hv

/-- A word store inside memory keeps the canonical form. -/
theorem wf_writeWord (m : Memory) (a : Nat) (v : Word) (h : Memory.wf m)
    (ha : a + 2 ≤ Config.memSize) : Memory.wf (writeWord m a v) :=
  wf_writeByte _ _ _ (wf_writeByte _ _ _ h (by omega)) (by omega)

/-- A 32-bit store inside memory keeps the canonical form. -/
theorem wf_writeQuad (m : Memory) (a : Nat) (v : InstrWord) (h : Memory.wf m)
    (ha : a + 4 ≤ Config.memSize) : Memory.wf (writeQuad m a v) :=
  wf_writeWord _ _ _ (wf_writeWord _ _ _ h (by omega)) (by omega)

/-- Words written downward from p keep the canonical form. -/
theorem wf_writeDown (vs : List Word) (m : Memory) (p : Nat) (h : Memory.wf m)
    (hp : p ≤ Config.memSize) (hl : 2 * vs.length ≤ p) : Memory.wf (writeDown m p vs) := by
  induction vs generalizing m p with
  | nil => exact h
  | cons v vs ih =>
    simp only [List.length_cons] at hl
    exact ih _ _ (wf_writeWord _ _ _ h (by omega)) (by omega) (by omega)

/-- Two memories in canonical form that read alike are equal. -/
theorem wf_ext (m n : Memory) (hm : Memory.wf m) (hn : Memory.wf n)
    (h : ∀ a, readByte m a = readByte n a) : m = n := by
  have low : ∀ (l : Memory) (k : Nat), (∀ p ∈ l, k < p.1) → readByte l k = unlistedByte := by
    intro l k hl
    induction l with
    | nil => rfl
    | cons p rest ih =>
      obtain ⟨j, b⟩ := p
      have hj : k < j := hl (j, b) (by simp)
      simp only [readByte, show ¬ j = k by omega, if_false]
      exact ih fun p hp => hl p (by simp [hp])
  induction m generalizing n with
  | nil =>
    cases n with
    | nil => rfl
    | cons q rest =>
      have hq := h q.1
      simp only [readByte, if_true] at hq
      exact absurd hq.symm (hn.2 q (by simp)).2
  | cons p rest ih =>
    cases n with
    | nil =>
      have hp := h p.1
      simp only [readByte, if_true] at hp
      exact absurd hp (hm.2 p (by simp)).2
    | cons q rest' =>
      obtain ⟨j, b⟩ := p
      obtain ⟨k, c⟩ := q
      have hs := List.pairwise_cons.mp hm.1
      have ht := List.pairwise_cons.mp hn.1
      have hjk : j = k := by
        rcases Nat.lt_trichotomy j k with hlt | heq | hgt
        · have := h j
          rw [low ((k, c) :: rest') j (by
            intro p hp
            rcases List.mem_cons.mp hp with rfl | hp
            · exact hlt
            · exact Nat.lt_trans hlt (ht.1 p hp))] at this
          simp only [readByte, if_true] at this
          exact absurd this (hm.2 (j, b) (by simp)).2
        · exact heq
        · have := h k
          rw [low ((j, b) :: rest) k (by
            intro p hp
            rcases List.mem_cons.mp hp with rfl | hp
            · exact hgt
            · exact Nat.lt_trans hgt (hs.1 p hp))] at this
          simp only [readByte, if_true] at this
          exact absurd this.symm (hn.2 (k, c) (by simp)).2
      subst hjk
      have hbc : b = c := by simpa [readByte] using h j
      subst hbc
      congr 1
      refine ih rest' ⟨hs.2, fun p hp => hm.2 p (by simp [hp])⟩
        ⟨ht.2, fun p hp => hn.2 p (by simp [hp])⟩ fun a => ?_
      by_cases ha : j = a
      · subst ha
        rw [low rest j hs.1, low rest' j ht.1]
      · simpa [readByte, ha] using h a

end Sys2Proof.Machine
end

