-- ==== Sys2Proof/Laws/Ops.lean ====
section
/-! SUPPORT. What each shared operation can do, said once: if it answers, then how, and when it does
not. -/

namespace Sys2Proof.Machine

@[simp] theorem memSize_eq : Config.memSize = 65536 := rfl

/-! ### Raising -/

@[simp] theorem orRaise_ok {α : Type} (v : α) (k : α → StepOutcome) :
    orRaise (.ok v) k = k v := rfl

@[simp] theorem orRaise_error {α : Type} (f : Fault) (k : α → StepOutcome) :
    orRaise (.error f) k = .fault f := rfl

/-- A next state comes from a value that did not raise. -/
theorem orRaise_eq_next {α : Type} {e : Except Fault α} {k : α → StepOutcome} {t : State}
    (h : orRaise e k = .next t) : ∃ v, e = .ok v ∧ k v = .next t := by
  cases e with
  | ok v => exact ⟨v, rfl, h⟩
  | error f => exact absurd h (by simp)

/-- A fault is the operation's own or comes from what follows it. -/
theorem orRaise_eq_fault {α : Type} {e : Except Fault α} {k : α → StepOutcome} {f : Fault}
    (h : orRaise e k = .fault f) : e = .error f ∨ ∃ v, e = .ok v ∧ k v = .fault f := by
  cases e with
  | ok v => exact .inr ⟨v, rfl, h⟩
  | error g =>
    refine .inl ?_
    simp only [orRaise_error, Host.Outcome.fault.injEq] at h
    rw [h]

/-! ### The ends of the operand forms -/

@[simp] theorem finish_eq (s : State) : finish s = .next s.advance := rfl

@[simp] theorem regResult_eq (s : State) (d : Reg) (v : Word) :
    regResult s d v = .next (s.setReg d v).advance := rfl

@[simp] theorem aluResult_eq (s : State) (d : Reg) (o : AluOut) :
    aluResult s d o = .next ((s.setReg d o.1).setFlags o.2).advance := rfl

@[simp] theorem aluFlagsOnly_eq (s : State) (o : AluOut) :
    aluFlagsOnly s o = .next (s.setFlags o.2).advance := rfl

@[simp] theorem jumpTo_eq (s : State) (a : Word) : jumpTo s a = .next (s.setPc a) := rfl

@[simp] theorem emitResult_eq (s : State) (c : Call) :
    emitResult s c = .next (s.emit c).advance := rfl

/-! ### Memory accesses -/

theorem inBounds_iff (a : Word) (n : Nat) : inBounds a n = true ↔ a.toNat + n ≤ 65536 := by
  exact decide_eq_true_iff

theorem inBounds_eq_false (a : Word) (n : Nat) (h : 65536 < a.toNat + n) : inBounds a n = false :=
  decide_eq_false (Nat.not_le.mpr h)

theorem memRead2_ok (s : State) (a : Word) (h : a.toNat + 2 ≤ 65536) :
    memRead2 s a = .ok (readWord s.mem a.toNat) := by
  simp [memRead2, (inBounds_iff a 2).mpr h]

theorem memRead2_error (s : State) (a : Word) (h : 65536 < a.toNat + 2) :
    memRead2 s a = .error (.outOfBounds a 2) := by
  simp [memRead2, inBounds_eq_false a 2 h]

theorem memRead4_ok (s : State) (a : Word) (h : a.toNat + 4 ≤ 65536) :
    memRead4 s a = .ok (readQuad s.mem a.toNat) := by
  simp [memRead4, (inBounds_iff a 4).mpr h]

theorem memRead4_error (s : State) (a : Word) (h : 65536 < a.toNat + 4) :
    memRead4 s a = .error (.outOfBounds a 4) := by
  simp [memRead4, inBounds_eq_false a 4 h]

theorem memWrite2_ok (s : State) (a v : Word) (h : a.toNat + 2 ≤ 65536) :
    memWrite2 s a v = .ok (s.setMem (writeWord s.mem a.toNat v)) := by
  simp [memWrite2, (inBounds_iff a 2).mpr h]

theorem memWrite2_error (s : State) (a v : Word) (h : 65536 < a.toNat + 2) :
    memWrite2 s a v = .error (.outOfBounds a 2) := by
  simp [memWrite2, inBounds_eq_false a 2 h]

/-- A word read that answers stayed inside memory. -/
theorem memRead2_inv {s : State} {a v : Word} (h : memRead2 s a = .ok v) :
    a.toNat + 2 ≤ 65536 ∧ v = readWord s.mem a.toNat := by
  by_cases hb : a.toNat + 2 ≤ 65536
  · rw [memRead2_ok s a hb] at h
    exact ⟨hb, by simpa using h.symm⟩
  · rw [memRead2_error s a (by omega)] at h
    exact absurd h (by simp)

/-- A word write that answers stayed inside memory and wrote that word only. -/
theorem memWrite2_inv {s t : State} {a v : Word} (h : memWrite2 s a v = .ok t) :
    a.toNat + 2 ≤ 65536 ∧ t = s.setMem (writeWord s.mem a.toNat v) := by
  by_cases hb : a.toNat + 2 ≤ 65536
  · rw [memWrite2_ok s a v hb] at h
    exact ⟨hb, by simpa using h.symm⟩
  · rw [memWrite2_error s a v (by omega)] at h
    exact absurd h (by simp)

/-- A palette load that answers found its table inside memory and emitted sixteen calls. -/
theorem loadPalette_inv {s t : State} {a : Word} (h : loadPalette s a = .ok t) :
    a.toNat + 48 ≤ 65536 ∧
      t = s.emitAll ((List.range 16).map (paletteCall s.mem a.toNat)) := by
  by_cases hb : a.toNat + 48 ≤ 65536
  · rw [loadPalette, if_pos ((inBounds_iff a 48).mpr hb)] at h
    exact ⟨hb, by simpa [Config.paletteSlots] using h.symm⟩
  · rw [loadPalette, inBounds_eq_false a 48 (by omega)] at h
    exact absurd h (by simp)

/-! ### Stack -/

theorem stackPos_zero : stackPos 0 = 65536 := rfl

theorem stackPos_of_ne {sp : Word} (h : sp ≠ 0) : stackPos sp = sp.toNat := if_neg h

/-- The stack position lies in 1 to 0x10000 (20 R79). -/
theorem stackPos_bounds (sp : Word) : 1 ≤ stackPos sp ∧ stackPos sp ≤ 65536 := by
  by_cases h : sp = 0
  · subst h; decide
  · rw [stackPos_of_ne h]
    have h1 := sp.isLt
    have h2 : sp.toNat ≠ 0 := fun e => h (BitVec.eq_of_toNat_eq (by simpa using e))
    omega

/-- The stack position modulo 2^16 is sp. -/
theorem stackPos_mod (sp : Word) : stackPos sp % 65536 = sp.toNat := by
  by_cases h : sp = 0
  · subst h; rfl
  · rw [stackPos_of_ne h]
    exact Nat.mod_eq_of_lt sp.isLt

/-- A push that answers had room for a word and wrote that word only. -/
theorem push_inv {s t : State} {v : Word} (h : push s v = .ok t) :
    2 ≤ stackPos s.sp ∧ t = (s.setMem (writeWord s.mem (stackPos s.sp - 2) v)).setSp
      (BitVec.ofNat 16 (stackPos s.sp - 2)) := by
  unfold push at h
  split at h
  · exact absurd h (by simp)
  · next hc =>
    simp only [Except.ok.injEq] at h
    exact ⟨by omega, h.symm⟩

/-- A pop that answers found a word below the top of memory. -/
theorem pop_inv {s t : State} {v : Word} (h : pop s = .ok (v, t)) :
    stackPos s.sp + 2 ≤ 65536 ∧ v = readWord s.mem (stackPos s.sp) ∧
      t = s.setSp (BitVec.ofNat 16 (stackPos s.sp + 2)) := by
  unfold pop at h
  split at h
  · exact absurd h (by simp)
  · next hc =>
    simp only [Except.ok.injEq, Prod.mk.injEq] at h
    exact ⟨by simpa using hc, h.1.symm, h.2.symm⟩

theorem pushAll_inv {s t : State} (h : pushAll s = .ok t) :
    32 ≤ stackPos s.sp ∧ t = (s.setMem (writeDown s.mem (stackPos s.sp) s.regs.toList)).setSp
      (BitVec.ofNat 16 (stackPos s.sp - 32)) := by
  unfold pushAll at h
  split at h
  · exact absurd h (by simp)
  · next hc =>
    simp only [Except.ok.injEq] at h
    exact ⟨by omega, h.symm⟩

theorem popAll_inv {s t : State} (h : popAll s = .ok t) :
    stackPos s.sp + 32 ≤ 65536 ∧
      t = (s.setRegs (Vector.ofFn fun i => readWord s.mem (stackPos s.sp + 30 - 2 * i.val))).setSp
        (BitVec.ofNat 16 (stackPos s.sp + 32)) := by
  unfold popAll at h
  split at h
  · exact absurd h (by simp)
  · next hc =>
    simp only [Except.ok.injEq] at h
    exact ⟨by simpa using hc, h.symm⟩

/-! ### Random numbers -/

/-- The drawn word is the generator's value: a value within the bound fits a word. -/
@[simp] theorem rngDraw_toNat (g : Config.RngState) (bound : Word) :
    (rngDraw g bound).1.toNat = (Config.rngNext g bound).1.val := by
  have h := (Config.rngNext g bound).1.isLt
  have hb := bound.isLt
  simp only [rngDraw, BitVec.toNat_ofNat]
  exact Nat.mod_eq_of_lt (by omega)

/-- A drawn value is within the bound (46 R318). -/
theorem rngDraw_le (g : Config.RngState) (bound : Word) :
    (rngDraw g bound).1.toNat ≤ bound.toNat := by
  rw [rngDraw_toNat]
  exact Nat.le_of_lt_succ (Config.rngNext g bound).1.isLt

/-- The bound 0 gives 0 (46 R318). -/
theorem rngDraw_zero (g : Config.RngState) : (rngDraw g 0).1 = 0 :=
  BitVec.eq_of_toNat_eq (Nat.le_zero.mp (rngDraw_le g 0))

/-! ### Division -/

theorem divChecked_zero (o : AluOut) : divChecked 0 o = .error .divisionByZero := rfl

theorem divChecked_ne {b : Word} (o : AluOut) (h : b ≠ 0) : divChecked b o = .ok o := if_neg h

/-! ### The step -/

/-- A step that answers next fetched and decoded an instruction and executed it. -/
theorem step_eq_next {s t : State} (h : step s = .next t) :
    ∃ w i, fetch s = .ok w ∧ decodeWord w = .ok i ∧ exec i s.beginStep = .next t := by
  unfold step at h
  cases hw : fetch s with
  | error f => simp [hw, raise] at h
  | ok w =>
    cases hd : decodeWord w with
    | error e => cases e; simp [hw, hd, raise] at h
    | ok i => exact ⟨w, i, rfl, hd, by simpa [hw, hd] using h⟩

/-- A fetched and decoded instruction is what the step executes. -/
theorem step_of_decode {s : State} {w : InstrWord} {i : Instr} (hw : fetch s = .ok w)
    (hd : decodeWord w = .ok i) : step s = exec i s.beginStep := by
  simp [step, hw, hd]

end Sys2Proof.Machine
end

