-- ==== Sys2Proof/Laws/PerInstr.lean ====
section
/-! SUPPORT. Per-instruction facts about the encoding: `OpcodeByte` (the top byte of an encoded word is
the opcode of 30 R117) and `IgnoredBitsZero` (an encoder writes every ignored bit 0, 30 R115). -/

namespace Sys2Proof.Laws

/-! ### Fields of a word -/

theorem extract_or (a b : InstrWord) (lo n : Nat) :
    (a ||| b).extractLsb' lo n = a.extractLsb' lo n ||| b.extractLsb' lo n := BitVec.extractLsb'_or

/-- A field reads back where it was placed. -/
theorem extract_fieldAt_same {k : Nat} (v : BitVec k) (lo : Nat) (h : lo + k ≤ 32) :
    (fieldAt v lo).extractLsb' lo k = v := by
  ext i hi
  simp only [fieldAt, BitVec.getElem_extractLsb', BitVec.getLsbD_shiftLeft, BitVec.getLsbD_setWidth]
  simp [show lo + i < 32 by omega, show i < 32 by omega, BitVec.getLsbD_eq_getElem hi]

/-- A field leaves the bits above it 0. -/
theorem extract_fieldAt_above {k : Nat} (v : BitVec k) (lo lo' n : Nat) (h : lo + k ≤ lo') :
    (fieldAt v lo).extractLsb' lo' n = 0 := by
  ext i hi
  simp only [fieldAt, BitVec.getElem_extractLsb', BitVec.getLsbD_shiftLeft, BitVec.getLsbD_setWidth]
  rw [BitVec.getLsbD_of_ge v _ (by omega)]
  simp

/-- A field leaves the bits below it 0. -/
theorem extract_fieldAt_below {k : Nat} (v : BitVec k) (lo lo' n : Nat) (h : lo' + n ≤ lo) :
    (fieldAt v lo).extractLsb' lo' n = 0 := by
  ext i hi
  simp only [fieldAt, BitVec.getElem_extractLsb', BitVec.getLsbD_shiftLeft, BitVec.getLsbD_setWidth]
  simp [show lo' + i < lo by omega]

/-- A field under a mask that is 0 wherever the field lies is 0. -/
theorem fieldAt_and_eq_zero {k : Nat} (v : BitVec k) (lo : Nat) (mask : InstrWord)
    (h : ∀ i < k, mask.getLsbD (lo + i) = false) : fieldAt v lo &&& mask = 0 := by
  ext i hi
  simp only [fieldAt, BitVec.getElem_and, BitVec.getElem_shiftLeft]
  by_cases h1 : i < lo
  · simp [h1]
  · by_cases h2 : i - lo < k
    · have hm := h (i - lo) h2
      rw [show lo + (i - lo) = i by omega, BitVec.getLsbD_eq_getElem hi] at hm
      simp [hm]
    · simp [BitVec.getLsbD_of_ge v (i - lo) (by omega)]

@[simp] theorem regBits_toFin (x : Reg) : (regBits x).toFin = x := rfl

theorem ofCode_code (c : Cond) : Cond.ofCode c.code = c := by cases c <;> rfl

/-! ### The top byte of an encoded word -/

/-- The top byte of the encoded word is the operation's opcode (30 R117). -/
def OpcodeByte.Statement (i : Instr) : Prop := opcodeField (encode i) = i.opcode

theorem top_or (a b : InstrWord) (op : Byte) (ha : opcodeField a = op)
    (hb : b.extractLsb' 24 8 = 0) : opcodeField (a ||| b) = op := by
  have h : a.extractLsb' 24 8 = op := ha
  simp [opcodeField, extract_or, hb, h]

theorem opcode_encN (op : Byte) : opcodeField (encN op) = op :=
  extract_fieldAt_same _ _ (by decide)

theorem opcode_encA (op : Byte) (imm : Word) : opcodeField (encA op imm) = op :=
  top_or _ _ _ (extract_fieldAt_same _ _ (by decide))
    (extract_fieldAt_above _ _ _ _ (by decide))

theorem opcode_encRI (op : Byte) (x : Reg) (imm : Word) : opcodeField (encRI op x imm) = op :=
  top_or _ _ _ (top_or _ _ _ (extract_fieldAt_same _ _ (by decide))
    (extract_fieldAt_above _ _ _ _ (by decide)))
    (extract_fieldAt_above _ _ _ _ (by decide))

theorem opcode_encCI (op : Byte) (c : Cond) (addr : Word) : opcodeField (encCI op c addr) = op :=
  top_or _ _ _ (top_or _ _ _ (extract_fieldAt_same _ _ (by decide))
    (extract_fieldAt_above _ _ _ _ (by decide)))
    (extract_fieldAt_above _ _ _ _ (by decide))

theorem opcode_encRN (op : Byte) (x : Reg) (n : Nibble) : opcodeField (encRN op x n) = op :=
  top_or _ _ _ (top_or _ _ _ (extract_fieldAt_same _ _ (by decide))
    (extract_fieldAt_above _ _ _ _ (by decide)))
    (extract_fieldAt_above _ _ _ _ (by decide))

theorem opcode_encK (op : Byte) (n : Nibble) : opcodeField (encK op n) = op :=
  top_or _ _ _ (extract_fieldAt_same _ _ (by decide))
    (extract_fieldAt_above _ _ _ _ (by decide))

theorem opcode_encR (op : Byte) (x : Reg) : opcodeField (encR op x) = op :=
  top_or _ _ _ (extract_fieldAt_same _ _ (by decide))
    (extract_fieldAt_above _ _ _ _ (by decide))

theorem opcode_encRR (op : Byte) (x y : Reg) : opcodeField (encRR op x y) = op :=
  top_or _ _ _ (top_or _ _ _ (extract_fieldAt_same _ _ (by decide))
    (extract_fieldAt_above _ _ _ _ (by decide)))
    (extract_fieldAt_above _ _ _ _ (by decide))

theorem opcode_encRRR (op : Byte) (x y z : Reg) : opcodeField (encRRR op x y z) = op :=
  top_or _ _ _ (top_or _ _ _ (top_or _ _ _ (extract_fieldAt_same _ _ (by decide))
    (extract_fieldAt_above _ _ _ _ (by decide)))
    (extract_fieldAt_above _ _ _ _ (by decide)))
    (extract_fieldAt_above _ _ _ _ (by decide))

theorem opcode_encRRA (op : Byte) (x y : Reg) (imm : Word) : opcodeField (encRRA op x y imm) = op :=
  top_or _ _ _ (top_or _ _ _ (top_or _ _ _ (extract_fieldAt_same _ _ (by decide))
    (extract_fieldAt_above _ _ _ _ (by decide)))
    (extract_fieldAt_above _ _ _ _ (by decide)))
    (extract_fieldAt_above _ _ _ _ (by decide))

theorem opcode_encS (op : Byte) (a d v t sus rel : Nibble) : opcodeField (encS op a d v t sus rel) = op :=
  top_or _ _ _ (top_or _ _ _ (top_or _ _ _ (top_or _ _ _ (top_or _ _ _ (top_or _ _ _ (extract_fieldAt_same _ _ (by decide))
    (extract_fieldAt_above _ _ _ _ (by decide)))
    (extract_fieldAt_above _ _ _ _ (by decide)))
    (extract_fieldAt_above _ _ _ _ (by decide)))
    (extract_fieldAt_above _ _ _ _ (by decide)))
    (extract_fieldAt_above _ _ _ _ (by decide)))
    (extract_fieldAt_above _ _ _ _ (by decide))

theorem opcode_encF (op : Byte) (n : BitVec 2) : opcodeField (encF op n) = op :=
  top_or _ _ _ (extract_fieldAt_same _ _ (by decide))
    (extract_fieldAt_above _ _ _ _ (by decide))

theorem OpcodeByte.nop : OpcodeByte.Statement (.nop) :=
  opcode_encN _

theorem OpcodeByte.cls : OpcodeByte.Statement (.cls) :=
  opcode_encN _

theorem OpcodeByte.vblnk : OpcodeByte.Statement (.vblnk) :=
  opcode_encN _

theorem OpcodeByte.bgc (n : Nibble) : OpcodeByte.Statement (.bgc n) :=
  opcode_encK _ _

theorem OpcodeByte.spr (imm : Word) : OpcodeByte.Statement (.spr imm) :=
  opcode_encA _ _

theorem OpcodeByte.drw0 (x y : Reg) (imm : Word) : OpcodeByte.Statement (.drw0 x y imm) :=
  opcode_encRRA _ _ _ _

theorem OpcodeByte.drw1 (x y z : Reg) : OpcodeByte.Statement (.drw1 x y z) :=
  opcode_encRRR _ _ _ _

theorem OpcodeByte.rnd (x : Reg) (imm : Word) : OpcodeByte.Statement (.rnd x imm) :=
  opcode_encRI _ _ _

theorem OpcodeByte.flip0 : OpcodeByte.Statement (.flip0) :=
  opcode_encF _ _

theorem OpcodeByte.flip1 : OpcodeByte.Statement (.flip1) :=
  opcode_encF _ _

theorem OpcodeByte.flip2 : OpcodeByte.Statement (.flip2) :=
  opcode_encF _ _

theorem OpcodeByte.flip3 : OpcodeByte.Statement (.flip3) :=
  opcode_encF _ _

theorem OpcodeByte.snd0 : OpcodeByte.Statement (.snd0) :=
  opcode_encN _

theorem OpcodeByte.snd1 (imm : Word) : OpcodeByte.Statement (.snd1 imm) :=
  opcode_encA _ _

theorem OpcodeByte.snd2 (imm : Word) : OpcodeByte.Statement (.snd2 imm) :=
  opcode_encA _ _

theorem OpcodeByte.snd3 (imm : Word) : OpcodeByte.Statement (.snd3 imm) :=
  opcode_encA _ _

theorem OpcodeByte.snp (x : Reg) (imm : Word) : OpcodeByte.Statement (.snp x imm) :=
  opcode_encRI _ _ _

theorem OpcodeByte.sng (a d v t sus rel : Nibble) : OpcodeByte.Statement (.sng a d v t sus rel) :=
  opcode_encS _ _ _ _ _ _ _

theorem OpcodeByte.jmp0 (imm : Word) : OpcodeByte.Statement (.jmp0 imm) :=
  opcode_encA _ _

theorem OpcodeByte.jmc (imm : Word) : OpcodeByte.Statement (.jmc imm) :=
  opcode_encA _ _

theorem OpcodeByte.jx (c : Cond) (addr : Word) : OpcodeByte.Statement (.jx c addr) :=
  opcode_encCI _ _ _

theorem OpcodeByte.jme (x y : Reg) (imm : Word) : OpcodeByte.Statement (.jme x y imm) :=
  opcode_encRRA _ _ _ _

theorem OpcodeByte.call0 (imm : Word) : OpcodeByte.Statement (.call0 imm) :=
  opcode_encA _ _

theorem OpcodeByte.ret : OpcodeByte.Statement (.ret) :=
  opcode_encN _

theorem OpcodeByte.jmp1 (x : Reg) : OpcodeByte.Statement (.jmp1 x) :=
  opcode_encR _ _

theorem OpcodeByte.cx (c : Cond) (addr : Word) : OpcodeByte.Statement (.cx c addr) :=
  opcode_encCI _ _ _

theorem OpcodeByte.call1 (x : Reg) : OpcodeByte.Statement (.call1 x) :=
  opcode_encR _ _

theorem OpcodeByte.ldi0 (x : Reg) (imm : Word) : OpcodeByte.Statement (.ldi0 x imm) :=
  opcode_encRI _ _ _

theorem OpcodeByte.ldi1 (x : Reg) (imm : Word) : OpcodeByte.Statement (.ldi1 x imm) :=
  opcode_encRI _ _ _

theorem OpcodeByte.ldm0 (x : Reg) (imm : Word) : OpcodeByte.Statement (.ldm0 x imm) :=
  opcode_encRI _ _ _

theorem OpcodeByte.ldm1 (x y : Reg) : OpcodeByte.Statement (.ldm1 x y) :=
  opcode_encRR _ _ _

theorem OpcodeByte.mov (x y : Reg) : OpcodeByte.Statement (.mov x y) :=
  opcode_encRR _ _ _

theorem OpcodeByte.stm0 (x : Reg) (imm : Word) : OpcodeByte.Statement (.stm0 x imm) :=
  opcode_encRI _ _ _

theorem OpcodeByte.stm1 (x y : Reg) : OpcodeByte.Statement (.stm1 x y) :=
  opcode_encRR _ _ _

theorem OpcodeByte.addi (x : Reg) (imm : Word) : OpcodeByte.Statement (.addi x imm) :=
  opcode_encRI _ _ _

theorem OpcodeByte.add0 (x y : Reg) : OpcodeByte.Statement (.add0 x y) :=
  opcode_encRR _ _ _

theorem OpcodeByte.add1 (x y z : Reg) : OpcodeByte.Statement (.add1 x y z) :=
  opcode_encRRR _ _ _ _

theorem OpcodeByte.subi (x : Reg) (imm : Word) : OpcodeByte.Statement (.subi x imm) :=
  opcode_encRI _ _ _

theorem OpcodeByte.sub0 (x y : Reg) : OpcodeByte.Statement (.sub0 x y) :=
  opcode_encRR _ _ _

theorem OpcodeByte.sub1 (x y z : Reg) : OpcodeByte.Statement (.sub1 x y z) :=
  opcode_encRRR _ _ _ _

theorem OpcodeByte.cmpi (x : Reg) (imm : Word) : OpcodeByte.Statement (.cmpi x imm) :=
  opcode_encRI _ _ _

theorem OpcodeByte.cmp (x y : Reg) : OpcodeByte.Statement (.cmp x y) :=
  opcode_encRR _ _ _

theorem OpcodeByte.andi (x : Reg) (imm : Word) : OpcodeByte.Statement (.andi x imm) :=
  opcode_encRI _ _ _

theorem OpcodeByte.and0 (x y : Reg) : OpcodeByte.Statement (.and0 x y) :=
  opcode_encRR _ _ _

theorem OpcodeByte.and1 (x y z : Reg) : OpcodeByte.Statement (.and1 x y z) :=
  opcode_encRRR _ _ _ _

theorem OpcodeByte.tsti (x : Reg) (imm : Word) : OpcodeByte.Statement (.tsti x imm) :=
  opcode_encRI _ _ _

theorem OpcodeByte.tst (x y : Reg) : OpcodeByte.Statement (.tst x y) :=
  opcode_encRR _ _ _

theorem OpcodeByte.ori (x : Reg) (imm : Word) : OpcodeByte.Statement (.ori x imm) :=
  opcode_encRI _ _ _

theorem OpcodeByte.or0 (x y : Reg) : OpcodeByte.Statement (.or0 x y) :=
  opcode_encRR _ _ _

theorem OpcodeByte.or1 (x y z : Reg) : OpcodeByte.Statement (.or1 x y z) :=
  opcode_encRRR _ _ _ _

theorem OpcodeByte.xori (x : Reg) (imm : Word) : OpcodeByte.Statement (.xori x imm) :=
  opcode_encRI _ _ _

theorem OpcodeByte.xor0 (x y : Reg) : OpcodeByte.Statement (.xor0 x y) :=
  opcode_encRR _ _ _

theorem OpcodeByte.xor1 (x y z : Reg) : OpcodeByte.Statement (.xor1 x y z) :=
  opcode_encRRR _ _ _ _

theorem OpcodeByte.muli (x : Reg) (imm : Word) : OpcodeByte.Statement (.muli x imm) :=
  opcode_encRI _ _ _

theorem OpcodeByte.mul0 (x y : Reg) : OpcodeByte.Statement (.mul0 x y) :=
  opcode_encRR _ _ _

theorem OpcodeByte.mul1 (x y z : Reg) : OpcodeByte.Statement (.mul1 x y z) :=
  opcode_encRRR _ _ _ _

theorem OpcodeByte.divi (x : Reg) (imm : Word) : OpcodeByte.Statement (.divi x imm) :=
  opcode_encRI _ _ _

theorem OpcodeByte.div0 (x y : Reg) : OpcodeByte.Statement (.div0 x y) :=
  opcode_encRR _ _ _

theorem OpcodeByte.div1 (x y z : Reg) : OpcodeByte.Statement (.div1 x y z) :=
  opcode_encRRR _ _ _ _

theorem OpcodeByte.modi (x : Reg) (imm : Word) : OpcodeByte.Statement (.modi x imm) :=
  opcode_encRI _ _ _

theorem OpcodeByte.mod0 (x y : Reg) : OpcodeByte.Statement (.mod0 x y) :=
  opcode_encRR _ _ _

theorem OpcodeByte.mod1 (x y z : Reg) : OpcodeByte.Statement (.mod1 x y z) :=
  opcode_encRRR _ _ _ _

theorem OpcodeByte.remi (x : Reg) (imm : Word) : OpcodeByte.Statement (.remi x imm) :=
  opcode_encRI _ _ _

theorem OpcodeByte.rem0 (x y : Reg) : OpcodeByte.Statement (.rem0 x y) :=
  opcode_encRR _ _ _

theorem OpcodeByte.rem1 (x y z : Reg) : OpcodeByte.Statement (.rem1 x y z) :=
  opcode_encRRR _ _ _ _

theorem OpcodeByte.shli (x : Reg) (n : Nibble) : OpcodeByte.Statement (.shli x n) :=
  opcode_encRN _ _ _

theorem OpcodeByte.shri (x : Reg) (n : Nibble) : OpcodeByte.Statement (.shri x n) :=
  opcode_encRN _ _ _

theorem OpcodeByte.sari (x : Reg) (n : Nibble) : OpcodeByte.Statement (.sari x n) :=
  opcode_encRN _ _ _

theorem OpcodeByte.shl0 (x y : Reg) : OpcodeByte.Statement (.shl0 x y) :=
  opcode_encRR _ _ _

theorem OpcodeByte.shr0 (x y : Reg) : OpcodeByte.Statement (.shr0 x y) :=
  opcode_encRR _ _ _

theorem OpcodeByte.sar0 (x y : Reg) : OpcodeByte.Statement (.sar0 x y) :=
  opcode_encRR _ _ _

theorem OpcodeByte.push (x : Reg) : OpcodeByte.Statement (.push x) :=
  opcode_encR _ _

theorem OpcodeByte.pop (x : Reg) : OpcodeByte.Statement (.pop x) :=
  opcode_encR _ _

theorem OpcodeByte.pushall : OpcodeByte.Statement (.pushall) :=
  opcode_encN _

theorem OpcodeByte.popall : OpcodeByte.Statement (.popall) :=
  opcode_encN _

theorem OpcodeByte.pushf : OpcodeByte.Statement (.pushf) :=
  opcode_encN _

theorem OpcodeByte.popf : OpcodeByte.Statement (.popf) :=
  opcode_encN _

theorem OpcodeByte.pal0 (imm : Word) : OpcodeByte.Statement (.pal0 imm) :=
  opcode_encA _ _

theorem OpcodeByte.pal1 (x : Reg) : OpcodeByte.Statement (.pal1 x) :=
  opcode_encR _ _

theorem OpcodeByte.noti (x : Reg) (imm : Word) : OpcodeByte.Statement (.noti x imm) :=
  opcode_encRI _ _ _

theorem OpcodeByte.not0 (x : Reg) : OpcodeByte.Statement (.not0 x) :=
  opcode_encR _ _

theorem OpcodeByte.not1 (x y : Reg) : OpcodeByte.Statement (.not1 x y) :=
  opcode_encRR _ _ _

theorem OpcodeByte.negi (x : Reg) (imm : Word) : OpcodeByte.Statement (.negi x imm) :=
  opcode_encRI _ _ _

theorem OpcodeByte.neg0 (x : Reg) : OpcodeByte.Statement (.neg0 x) :=
  opcode_encR _ _

theorem OpcodeByte.neg1 (x y : Reg) : OpcodeByte.Statement (.neg1 x y) :=
  opcode_encRR _ _ _

/-! ### The ignored bits of an encoded word -/

/-- Every ignored bit of the encoded word is 0 (30 R115). -/
def IgnoredBitsZero.Statement (i : Instr) : Prop := encode i &&& i.format.ignored = 0

theorem or_and_eq_zero (a b mask : InstrWord) (ha : a &&& mask = 0) (hb : b &&& mask = 0) :
    (a ||| b) &&& mask = 0 := by
  ext i hi
  have h1 := congrArg (fun w : InstrWord => w[i]) ha
  have h2 := congrArg (fun w : InstrWord => w[i]) hb
  simp only [BitVec.getElem_and] at h1 h2
  simp only [BitVec.getElem_and, BitVec.getElem_or, Bool.and_or_distrib_right, h1, h2]
  simp

theorem ignoredN (op : Byte) :
    encN op &&& Format.ignored .n = 0 :=
  fieldAt_and_eq_zero _ _ _ (by decide)

theorem ignoredA (op : Byte) (imm : Word) :
    encA op imm &&& Format.ignored .a = 0 :=
  or_and_eq_zero _ _ _ (fieldAt_and_eq_zero _ _ _ (by decide)) (fieldAt_and_eq_zero _ _ _ (by decide))

theorem ignoredRI (op : Byte) (x : Reg) (imm : Word) :
    encRI op x imm &&& Format.ignored .ri = 0 :=
  or_and_eq_zero _ _ _ (or_and_eq_zero _ _ _ (fieldAt_and_eq_zero _ _ _ (by decide)) (fieldAt_and_eq_zero _ _ _ (by decide))) (fieldAt_and_eq_zero _ _ _ (by decide))

theorem ignoredCI (op : Byte) (c : Cond) (addr : Word) :
    encCI op c addr &&& Format.ignored .ci = 0 :=
  or_and_eq_zero _ _ _ (or_and_eq_zero _ _ _ (fieldAt_and_eq_zero _ _ _ (by decide)) (fieldAt_and_eq_zero _ _ _ (by decide))) (fieldAt_and_eq_zero _ _ _ (by decide))

theorem ignoredRN (op : Byte) (x : Reg) (n : Nibble) :
    encRN op x n &&& Format.ignored .rn = 0 :=
  or_and_eq_zero _ _ _ (or_and_eq_zero _ _ _ (fieldAt_and_eq_zero _ _ _ (by decide)) (fieldAt_and_eq_zero _ _ _ (by decide))) (fieldAt_and_eq_zero _ _ _ (by decide))

theorem ignoredK (op : Byte) (n : Nibble) :
    encK op n &&& Format.ignored .k = 0 :=
  or_and_eq_zero _ _ _ (fieldAt_and_eq_zero _ _ _ (by decide)) (fieldAt_and_eq_zero _ _ _ (by decide))

theorem ignoredR (op : Byte) (x : Reg) :
    encR op x &&& Format.ignored .r = 0 :=
  or_and_eq_zero _ _ _ (fieldAt_and_eq_zero _ _ _ (by decide)) (fieldAt_and_eq_zero _ _ _ (by decide))

theorem ignoredRR (op : Byte) (x y : Reg) :
    encRR op x y &&& Format.ignored .rr = 0 :=
  or_and_eq_zero _ _ _ (or_and_eq_zero _ _ _ (fieldAt_and_eq_zero _ _ _ (by decide)) (fieldAt_and_eq_zero _ _ _ (by decide))) (fieldAt_and_eq_zero _ _ _ (by decide))

theorem ignoredRRR (op : Byte) (x y z : Reg) :
    encRRR op x y z &&& Format.ignored .rrr = 0 :=
  or_and_eq_zero _ _ _ (or_and_eq_zero _ _ _ (or_and_eq_zero _ _ _ (fieldAt_and_eq_zero _ _ _ (by decide)) (fieldAt_and_eq_zero _ _ _ (by decide))) (fieldAt_and_eq_zero _ _ _ (by decide))) (fieldAt_and_eq_zero _ _ _ (by decide))

theorem ignoredRRA (op : Byte) (x y : Reg) (imm : Word) :
    encRRA op x y imm &&& Format.ignored .rra = 0 :=
  or_and_eq_zero _ _ _ (or_and_eq_zero _ _ _ (or_and_eq_zero _ _ _ (fieldAt_and_eq_zero _ _ _ (by decide)) (fieldAt_and_eq_zero _ _ _ (by decide))) (fieldAt_and_eq_zero _ _ _ (by decide))) (fieldAt_and_eq_zero _ _ _ (by decide))

theorem ignoredS (op : Byte) (a d v t sus rel : Nibble) :
    encS op a d v t sus rel &&& Format.ignored .s = 0 :=
  or_and_eq_zero _ _ _ (or_and_eq_zero _ _ _ (or_and_eq_zero _ _ _ (or_and_eq_zero _ _ _ (or_and_eq_zero _ _ _ (or_and_eq_zero _ _ _ (fieldAt_and_eq_zero _ _ _ (by decide)) (fieldAt_and_eq_zero _ _ _ (by decide))) (fieldAt_and_eq_zero _ _ _ (by decide))) (fieldAt_and_eq_zero _ _ _ (by decide))) (fieldAt_and_eq_zero _ _ _ (by decide))) (fieldAt_and_eq_zero _ _ _ (by decide))) (fieldAt_and_eq_zero _ _ _ (by decide))

theorem ignoredF (op : Byte) (n : BitVec 2) :
    encF op n &&& Format.ignored .f = 0 :=
  or_and_eq_zero _ _ _ (fieldAt_and_eq_zero _ _ _ (by decide)) (fieldAt_and_eq_zero _ _ _ (by decide))

theorem IgnoredBitsZero.nop : IgnoredBitsZero.Statement (.nop) :=
  ignoredN _

theorem IgnoredBitsZero.cls : IgnoredBitsZero.Statement (.cls) :=
  ignoredN _

theorem IgnoredBitsZero.vblnk : IgnoredBitsZero.Statement (.vblnk) :=
  ignoredN _

theorem IgnoredBitsZero.bgc (n : Nibble) : IgnoredBitsZero.Statement (.bgc n) :=
  ignoredK _ _

theorem IgnoredBitsZero.spr (imm : Word) : IgnoredBitsZero.Statement (.spr imm) :=
  ignoredA _ _

theorem IgnoredBitsZero.drw0 (x y : Reg) (imm : Word) : IgnoredBitsZero.Statement (.drw0 x y imm) :=
  ignoredRRA _ _ _ _

theorem IgnoredBitsZero.drw1 (x y z : Reg) : IgnoredBitsZero.Statement (.drw1 x y z) :=
  ignoredRRR _ _ _ _

theorem IgnoredBitsZero.rnd (x : Reg) (imm : Word) : IgnoredBitsZero.Statement (.rnd x imm) :=
  ignoredRI _ _ _

theorem IgnoredBitsZero.flip0 : IgnoredBitsZero.Statement (.flip0) :=
  ignoredF _ _

theorem IgnoredBitsZero.flip1 : IgnoredBitsZero.Statement (.flip1) :=
  ignoredF _ _

theorem IgnoredBitsZero.flip2 : IgnoredBitsZero.Statement (.flip2) :=
  ignoredF _ _

theorem IgnoredBitsZero.flip3 : IgnoredBitsZero.Statement (.flip3) :=
  ignoredF _ _

theorem IgnoredBitsZero.snd0 : IgnoredBitsZero.Statement (.snd0) :=
  ignoredN _

theorem IgnoredBitsZero.snd1 (imm : Word) : IgnoredBitsZero.Statement (.snd1 imm) :=
  ignoredA _ _

theorem IgnoredBitsZero.snd2 (imm : Word) : IgnoredBitsZero.Statement (.snd2 imm) :=
  ignoredA _ _

theorem IgnoredBitsZero.snd3 (imm : Word) : IgnoredBitsZero.Statement (.snd3 imm) :=
  ignoredA _ _

theorem IgnoredBitsZero.snp (x : Reg) (imm : Word) : IgnoredBitsZero.Statement (.snp x imm) :=
  ignoredRI _ _ _

theorem IgnoredBitsZero.sng (a d v t sus rel : Nibble) : IgnoredBitsZero.Statement (.sng a d v t sus rel) :=
  ignoredS _ _ _ _ _ _ _

theorem IgnoredBitsZero.jmp0 (imm : Word) : IgnoredBitsZero.Statement (.jmp0 imm) :=
  ignoredA _ _

theorem IgnoredBitsZero.jmc (imm : Word) : IgnoredBitsZero.Statement (.jmc imm) :=
  ignoredA _ _

theorem IgnoredBitsZero.jx (c : Cond) (addr : Word) : IgnoredBitsZero.Statement (.jx c addr) :=
  ignoredCI _ _ _

theorem IgnoredBitsZero.jme (x y : Reg) (imm : Word) : IgnoredBitsZero.Statement (.jme x y imm) :=
  ignoredRRA _ _ _ _

theorem IgnoredBitsZero.call0 (imm : Word) : IgnoredBitsZero.Statement (.call0 imm) :=
  ignoredA _ _

theorem IgnoredBitsZero.ret : IgnoredBitsZero.Statement (.ret) :=
  ignoredN _

theorem IgnoredBitsZero.jmp1 (x : Reg) : IgnoredBitsZero.Statement (.jmp1 x) :=
  ignoredR _ _

theorem IgnoredBitsZero.cx (c : Cond) (addr : Word) : IgnoredBitsZero.Statement (.cx c addr) :=
  ignoredCI _ _ _

theorem IgnoredBitsZero.call1 (x : Reg) : IgnoredBitsZero.Statement (.call1 x) :=
  ignoredR _ _

theorem IgnoredBitsZero.ldi0 (x : Reg) (imm : Word) : IgnoredBitsZero.Statement (.ldi0 x imm) :=
  ignoredRI _ _ _

theorem IgnoredBitsZero.ldi1 (x : Reg) (imm : Word) : IgnoredBitsZero.Statement (.ldi1 x imm) :=
  ignoredRI _ _ _

theorem IgnoredBitsZero.ldm0 (x : Reg) (imm : Word) : IgnoredBitsZero.Statement (.ldm0 x imm) :=
  ignoredRI _ _ _

theorem IgnoredBitsZero.ldm1 (x y : Reg) : IgnoredBitsZero.Statement (.ldm1 x y) :=
  ignoredRR _ _ _

theorem IgnoredBitsZero.mov (x y : Reg) : IgnoredBitsZero.Statement (.mov x y) :=
  ignoredRR _ _ _

theorem IgnoredBitsZero.stm0 (x : Reg) (imm : Word) : IgnoredBitsZero.Statement (.stm0 x imm) :=
  ignoredRI _ _ _

theorem IgnoredBitsZero.stm1 (x y : Reg) : IgnoredBitsZero.Statement (.stm1 x y) :=
  ignoredRR _ _ _

theorem IgnoredBitsZero.addi (x : Reg) (imm : Word) : IgnoredBitsZero.Statement (.addi x imm) :=
  ignoredRI _ _ _

theorem IgnoredBitsZero.add0 (x y : Reg) : IgnoredBitsZero.Statement (.add0 x y) :=
  ignoredRR _ _ _

theorem IgnoredBitsZero.add1 (x y z : Reg) : IgnoredBitsZero.Statement (.add1 x y z) :=
  ignoredRRR _ _ _ _

theorem IgnoredBitsZero.subi (x : Reg) (imm : Word) : IgnoredBitsZero.Statement (.subi x imm) :=
  ignoredRI _ _ _

theorem IgnoredBitsZero.sub0 (x y : Reg) : IgnoredBitsZero.Statement (.sub0 x y) :=
  ignoredRR _ _ _

theorem IgnoredBitsZero.sub1 (x y z : Reg) : IgnoredBitsZero.Statement (.sub1 x y z) :=
  ignoredRRR _ _ _ _

theorem IgnoredBitsZero.cmpi (x : Reg) (imm : Word) : IgnoredBitsZero.Statement (.cmpi x imm) :=
  ignoredRI _ _ _

theorem IgnoredBitsZero.cmp (x y : Reg) : IgnoredBitsZero.Statement (.cmp x y) :=
  ignoredRR _ _ _

theorem IgnoredBitsZero.andi (x : Reg) (imm : Word) : IgnoredBitsZero.Statement (.andi x imm) :=
  ignoredRI _ _ _

theorem IgnoredBitsZero.and0 (x y : Reg) : IgnoredBitsZero.Statement (.and0 x y) :=
  ignoredRR _ _ _

theorem IgnoredBitsZero.and1 (x y z : Reg) : IgnoredBitsZero.Statement (.and1 x y z) :=
  ignoredRRR _ _ _ _

theorem IgnoredBitsZero.tsti (x : Reg) (imm : Word) : IgnoredBitsZero.Statement (.tsti x imm) :=
  ignoredRI _ _ _

theorem IgnoredBitsZero.tst (x y : Reg) : IgnoredBitsZero.Statement (.tst x y) :=
  ignoredRR _ _ _

theorem IgnoredBitsZero.ori (x : Reg) (imm : Word) : IgnoredBitsZero.Statement (.ori x imm) :=
  ignoredRI _ _ _

theorem IgnoredBitsZero.or0 (x y : Reg) : IgnoredBitsZero.Statement (.or0 x y) :=
  ignoredRR _ _ _

theorem IgnoredBitsZero.or1 (x y z : Reg) : IgnoredBitsZero.Statement (.or1 x y z) :=
  ignoredRRR _ _ _ _

theorem IgnoredBitsZero.xori (x : Reg) (imm : Word) : IgnoredBitsZero.Statement (.xori x imm) :=
  ignoredRI _ _ _

theorem IgnoredBitsZero.xor0 (x y : Reg) : IgnoredBitsZero.Statement (.xor0 x y) :=
  ignoredRR _ _ _

theorem IgnoredBitsZero.xor1 (x y z : Reg) : IgnoredBitsZero.Statement (.xor1 x y z) :=
  ignoredRRR _ _ _ _

theorem IgnoredBitsZero.muli (x : Reg) (imm : Word) : IgnoredBitsZero.Statement (.muli x imm) :=
  ignoredRI _ _ _

theorem IgnoredBitsZero.mul0 (x y : Reg) : IgnoredBitsZero.Statement (.mul0 x y) :=
  ignoredRR _ _ _

theorem IgnoredBitsZero.mul1 (x y z : Reg) : IgnoredBitsZero.Statement (.mul1 x y z) :=
  ignoredRRR _ _ _ _

theorem IgnoredBitsZero.divi (x : Reg) (imm : Word) : IgnoredBitsZero.Statement (.divi x imm) :=
  ignoredRI _ _ _

theorem IgnoredBitsZero.div0 (x y : Reg) : IgnoredBitsZero.Statement (.div0 x y) :=
  ignoredRR _ _ _

theorem IgnoredBitsZero.div1 (x y z : Reg) : IgnoredBitsZero.Statement (.div1 x y z) :=
  ignoredRRR _ _ _ _

theorem IgnoredBitsZero.modi (x : Reg) (imm : Word) : IgnoredBitsZero.Statement (.modi x imm) :=
  ignoredRI _ _ _

theorem IgnoredBitsZero.mod0 (x y : Reg) : IgnoredBitsZero.Statement (.mod0 x y) :=
  ignoredRR _ _ _

theorem IgnoredBitsZero.mod1 (x y z : Reg) : IgnoredBitsZero.Statement (.mod1 x y z) :=
  ignoredRRR _ _ _ _

theorem IgnoredBitsZero.remi (x : Reg) (imm : Word) : IgnoredBitsZero.Statement (.remi x imm) :=
  ignoredRI _ _ _

theorem IgnoredBitsZero.rem0 (x y : Reg) : IgnoredBitsZero.Statement (.rem0 x y) :=
  ignoredRR _ _ _

theorem IgnoredBitsZero.rem1 (x y z : Reg) : IgnoredBitsZero.Statement (.rem1 x y z) :=
  ignoredRRR _ _ _ _

theorem IgnoredBitsZero.shli (x : Reg) (n : Nibble) : IgnoredBitsZero.Statement (.shli x n) :=
  ignoredRN _ _ _

theorem IgnoredBitsZero.shri (x : Reg) (n : Nibble) : IgnoredBitsZero.Statement (.shri x n) :=
  ignoredRN _ _ _

theorem IgnoredBitsZero.sari (x : Reg) (n : Nibble) : IgnoredBitsZero.Statement (.sari x n) :=
  ignoredRN _ _ _

theorem IgnoredBitsZero.shl0 (x y : Reg) : IgnoredBitsZero.Statement (.shl0 x y) :=
  ignoredRR _ _ _

theorem IgnoredBitsZero.shr0 (x y : Reg) : IgnoredBitsZero.Statement (.shr0 x y) :=
  ignoredRR _ _ _

theorem IgnoredBitsZero.sar0 (x y : Reg) : IgnoredBitsZero.Statement (.sar0 x y) :=
  ignoredRR _ _ _

theorem IgnoredBitsZero.push (x : Reg) : IgnoredBitsZero.Statement (.push x) :=
  ignoredR _ _

theorem IgnoredBitsZero.pop (x : Reg) : IgnoredBitsZero.Statement (.pop x) :=
  ignoredR _ _

theorem IgnoredBitsZero.pushall : IgnoredBitsZero.Statement (.pushall) :=
  ignoredN _

theorem IgnoredBitsZero.popall : IgnoredBitsZero.Statement (.popall) :=
  ignoredN _

theorem IgnoredBitsZero.pushf : IgnoredBitsZero.Statement (.pushf) :=
  ignoredN _

theorem IgnoredBitsZero.popf : IgnoredBitsZero.Statement (.popf) :=
  ignoredN _

theorem IgnoredBitsZero.pal0 (imm : Word) : IgnoredBitsZero.Statement (.pal0 imm) :=
  ignoredA _ _

theorem IgnoredBitsZero.pal1 (x : Reg) : IgnoredBitsZero.Statement (.pal1 x) :=
  ignoredR _ _

theorem IgnoredBitsZero.noti (x : Reg) (imm : Word) : IgnoredBitsZero.Statement (.noti x imm) :=
  ignoredRI _ _ _

theorem IgnoredBitsZero.not0 (x : Reg) : IgnoredBitsZero.Statement (.not0 x) :=
  ignoredR _ _

theorem IgnoredBitsZero.not1 (x y : Reg) : IgnoredBitsZero.Statement (.not1 x y) :=
  ignoredRR _ _ _

theorem IgnoredBitsZero.negi (x : Reg) (imm : Word) : IgnoredBitsZero.Statement (.negi x imm) :=
  ignoredRI _ _ _

theorem IgnoredBitsZero.neg0 (x : Reg) : IgnoredBitsZero.Statement (.neg0 x) :=
  ignoredR _ _

theorem IgnoredBitsZero.neg1 (x y : Reg) : IgnoredBitsZero.Statement (.neg1 x y) :=
  ignoredRR _ _ _

end Sys2Proof.Laws
end

