-- ==== Sys2Proof/Tests/Slice0.lean ====
section
/-! SUPPORT. Tests. Words and expected values are those of the instruction rules' examples and of
spec/95_test_vectors.md, named in the comments; none is the model's own answer. -/

namespace Sys2Proof.Tests

open Sys2Proof.Machine

/-! ### Helpers -/

/-- Reset with the listed registers set. -/
def regs (l : List (Reg × Word)) : State := l.foldl (fun s p => s.setReg p.1 p.2) State.reset

/-- Bytes placed in memory from an address. -/
def bytesAt (s : State) (a : Nat) (bs : List Byte) : State := s.setMem (writeBytes s.mem a bs)

/-- Flags set from a FLAGS byte (10 R38). -/
def withFlags (s : State) (b : Word) : State := s.setFlags (flagsOfWord b)

/-- One step with the word at pc. -/
def run (s : State) (w : Nat) : StepOutcome := step (s.withFetchWord 32 w)

/-- A register, FLAGS and pc after the step. -/
def seen (x : Reg) : StepOutcome → Option (Word × Byte × Word)
  | .next t => some (t.reg x, flagsByte t.flags, t.pc)
  | _ => none

/-- FLAGS and pc after the step. -/
def flow : StepOutcome → Option (Byte × Word)
  | .next t => some (flagsByte t.flags, t.pc)
  | _ => none

/-- The word at an address, sp and pc after the step. -/
def stacked (a : Nat) : StepOutcome → Option (Word × Word × Word)
  | .next t => some (readWord t.mem a, t.sp, t.pc)
  | _ => none

/-- The calls, the outcome and pc after the step. -/
def calls : StepOutcome → Option (List Call × StepResult × Word)
  | .next t => some (t.calls, t.result, t.pc)
  | _ => none

/-- The fault of the step. -/
def faultOf : StepOutcome → Option Fault
  | .fault f => some f
  | _ => none

/-- A field of the next state. -/
def field {α : Type} (g : State → α) : StepOutcome → Option α
  | .next t => some (g t)
  | _ => none

/-! ### Well-formed terms and words

Every term of Instr is well formed (log 10), so there is no ill-formed term; the words that no encoder
writes are refused by `canonicalWord`. -/

/-- 30 R115. -/
theorem test_wellFormed_sample : Instr.wellFormed (.sng 1 2 3 4 5 6) = true := by decide

/-- 95 E1. -/
theorem test_canonical_accepts_encoded : canonicalWord 0x42021000 = true ∧ canonicalWord 0x0E123456 = true := by decide

/-- 95 E1, section 10. -/
theorem test_canonical_refuses_ignored_bits : canonicalWord 0x42F21FF0 = false ∧ canonicalWord 0x08FFFFFF = false := by decide

/-- 30 R118. -/
theorem test_canonical_refuses_unassigned : canonicalWord 0x0F000000 = false ∧ canonicalWord 0xE6000000 = false := by decide

/-! ### Decoding: one word of every operation, from the example of its rule -/

theorem test_decode_peripheral :
    decodeTableWord 32 0x00123456 = some (.nop) ∧
    decodeTableWord 32 0x01000000 = some (.cls) ∧
    decodeTableWord 32 0x02000000 = some (.vblnk) ∧
    decodeTableWord 32 0x0300000A = some (.bgc 10) ∧
    decodeTableWord 32 0x04001008 = some (.spr 0x1008) ∧
    decodeTableWord 32 0x05213000 = some (.drw0 1 2 0x3000) ∧
    decodeTableWord 32 0x06021000 = some (.drw1 0 1 2) ∧
    decodeTableWord 32 0x0702000A = some (.rnd 2 10) ∧
    decodeTableWord 32 0x08000000 = some (.flip0) ∧
    decodeTableWord 32 0x08000001 = some (.flip1) ∧
    decodeTableWord 32 0x08FFFFFE = some (.flip2) ∧
    decodeTableWord 32 0x08FFFFFF = some (.flip3) ∧
    decodeTableWord 32 0x09000000 = some (.snd0) ∧
    decodeTableWord 32 0x0A000064 = some (.snd1 100) ∧
    decodeTableWord 32 0x0B0001F4 = some (.snd2 500) ∧
    decodeTableWord 32 0x0C00000A = some (.snd3 10) ∧
    decodeTableWord 32 0x0D0000C8 = some (.snp 0 200) ∧
    decodeTableWord 32 0x0E12F345 = some (.sng 1 2 15 3 4 5) := by decide

theorem test_encode_peripheral :
    encode (.cls) = 0x01000000 ∧
    encode (.vblnk) = 0x02000000 ∧
    encode (.bgc 10) = 0x0300000A ∧
    encode (.spr 0x1008) = 0x04001008 ∧
    encode (.drw0 1 2 0x3000) = 0x05213000 ∧
    encode (.drw1 0 1 2) = 0x06021000 ∧
    encode (.rnd 2 10) = 0x0702000A ∧
    encode (.flip0) = 0x08000000 ∧
    encode (.flip1) = 0x08000001 ∧
    encode (.snd0) = 0x09000000 ∧
    encode (.snd1 100) = 0x0A000064 ∧
    encode (.snd2 500) = 0x0B0001F4 ∧
    encode (.snd3 10) = 0x0C00000A ∧
    encode (.snp 0 200) = 0x0D0000C8 ∧
    encode (.sng 1 2 15 3 4 5) = 0x0E12F345 := by decide

theorem test_decode_control :
    decodeTableWord 32 0x10000100 = some (.jmp0 0x100) ∧
    decodeTableWord 32 0x11000200 = some (.jmc 0x200) ∧
    decodeTableWord 32 0x12010040 = some (.jx .nz 0x40) ∧
    decodeTableWord 32 0x13210300 = some (.jme 1 2 0x300) ∧
    decodeTableWord 32 0x14000100 = some (.call0 0x100) ∧
    decodeTableWord 32 0x15000000 = some (.ret) ∧
    decodeTableWord 32 0x16000004 = some (.jmp1 4) ∧
    decodeTableWord 32 0x17000400 = some (.cx .z 0x400) ∧
    decodeTableWord 32 0x18000002 = some (.call1 2) := by decide

theorem test_encode_control :
    encode (.jmp0 0x100) = 0x10000100 ∧
    encode (.jmc 0x200) = 0x11000200 ∧
    encode (.jx .nz 0x40) = 0x12010040 ∧
    encode (.jme 1 2 0x300) = 0x13210300 ∧
    encode (.call0 0x100) = 0x14000100 ∧
    encode (.ret) = 0x15000000 ∧
    encode (.jmp1 4) = 0x16000004 ∧
    encode (.cx .z 0x400) = 0x17000400 ∧
    encode (.call1 2) = 0x18000002 := by decide

theorem test_decode_dataMove :
    decodeTableWord 32 0x20000005 = some (.ldi0 0 5) ∧
    decodeTableWord 32 0x21010003 = some (.ldi1 1 3) ∧
    decodeTableWord 32 0x22031234 = some (.ldm0 3 0x1234) ∧
    decodeTableWord 32 0x23005002 = some (.ldm1 2 5) ∧
    decodeTableWord 32 0x24002001 = some (.mov 1 2) ∧
    decodeTableWord 32 0x30040100 = some (.stm0 4 0x100) ∧
    decodeTableWord 32 0x31005004 = some (.stm1 4 5) := by decide

theorem test_encode_dataMove :
    encode (.ldi0 0 5) = 0x20000005 ∧
    encode (.ldi1 1 3) = 0x21010003 ∧
    encode (.ldm0 3 0x1234) = 0x22031234 ∧
    encode (.ldm1 2 5) = 0x23005002 ∧
    encode (.mov 1 2) = 0x24002001 ∧
    encode (.stm0 4 0x100) = 0x30040100 ∧
    encode (.stm1 4 5) = 0x31005004 := by decide

theorem test_decode_arith :
    decodeTableWord 32 0x40000001 = some (.addi 0 1) ∧
    decodeTableWord 32 0x41001000 = some (.add0 0 1) ∧
    decodeTableWord 32 0x42032001 = some (.add1 1 2 3) ∧
    decodeTableWord 32 0x50010001 = some (.subi 1 1) ∧
    decodeTableWord 32 0x51001000 = some (.sub0 0 1) ∧
    decodeTableWord 32 0x52021000 = some (.sub1 0 1 2) ∧
    decodeTableWord 32 0x53000005 = some (.cmpi 0 5) ∧
    decodeTableWord 32 0x54001000 = some (.cmp 0 1) := by decide

theorem test_encode_arith :
    encode (.addi 0 1) = 0x40000001 ∧
    encode (.add0 0 1) = 0x41001000 ∧
    encode (.add1 1 2 3) = 0x42032001 ∧
    encode (.subi 1 1) = 0x50010001 ∧
    encode (.sub0 0 1) = 0x51001000 ∧
    encode (.sub1 0 1 2) = 0x52021000 ∧
    encode (.cmpi 0 5) = 0x53000005 ∧
    encode (.cmp 0 1) = 0x54001000 := by decide

theorem test_decode_logic :
    decodeTableWord 32 0x60000FFF = some (.andi 0 0xFFF) ∧
    decodeTableWord 32 0x61001000 = some (.and0 0 1) ∧
    decodeTableWord 32 0x62021000 = some (.and1 0 1 2) ∧
    decodeTableWord 32 0x63000004 = some (.tsti 0 4) ∧
    decodeTableWord 32 0x64001000 = some (.tst 0 1) ∧
    decodeTableWord 32 0x70008000 = some (.ori 0 0x8000) ∧
    decodeTableWord 32 0x71001000 = some (.or0 0 1) ∧
    decodeTableWord 32 0x72021000 = some (.or1 0 1 2) ∧
    decodeTableWord 32 0x8000FFFF = some (.xori 0 0xFFFF) ∧
    decodeTableWord 32 0x81003003 = some (.xor0 3 3) ∧
    decodeTableWord 32 0x82021000 = some (.xor1 0 1 2) := by decide

theorem test_encode_logic :
    encode (.andi 0 0xFFF) = 0x60000FFF ∧
    encode (.and0 0 1) = 0x61001000 ∧
    encode (.and1 0 1 2) = 0x62021000 ∧
    encode (.tsti 0 4) = 0x63000004 ∧
    encode (.tst 0 1) = 0x64001000 ∧
    encode (.ori 0 0x8000) = 0x70008000 ∧
    encode (.or0 0 1) = 0x71001000 ∧
    encode (.or1 0 1 2) = 0x72021000 ∧
    encode (.xori 0 0xFFFF) = 0x8000FFFF ∧
    encode (.xor0 3 3) = 0x81003003 ∧
    encode (.xor1 0 1 2) = 0x82021000 := by decide

theorem test_decode_mulDiv :
    decodeTableWord 32 0x90020100 = some (.muli 2 0x100) ∧
    decodeTableWord 32 0x91001000 = some (.mul0 0 1) ∧
    decodeTableWord 32 0x92021000 = some (.mul1 0 1 2) ∧
    decodeTableWord 32 0xA0000002 = some (.divi 0 2) ∧
    decodeTableWord 32 0xA1001000 = some (.div0 0 1) ∧
    decodeTableWord 32 0xA2021000 = some (.div1 0 1 2) ∧
    decodeTableWord 32 0xA3000003 = some (.modi 0 3) ∧
    decodeTableWord 32 0xA4001000 = some (.mod0 0 1) ∧
    decodeTableWord 32 0xA5021000 = some (.mod1 0 1 2) ∧
    decodeTableWord 32 0xA6000003 = some (.remi 0 3) ∧
    decodeTableWord 32 0xA7001000 = some (.rem0 0 1) ∧
    decodeTableWord 32 0xA8021000 = some (.rem1 0 1 2) := by decide

theorem test_encode_mulDiv :
    encode (.muli 2 0x100) = 0x90020100 ∧
    encode (.mul0 0 1) = 0x91001000 ∧
    encode (.mul1 0 1 2) = 0x92021000 ∧
    encode (.divi 0 2) = 0xA0000002 ∧
    encode (.div0 0 1) = 0xA1001000 ∧
    encode (.div1 0 1 2) = 0xA2021000 ∧
    encode (.modi 0 3) = 0xA3000003 ∧
    encode (.mod0 0 1) = 0xA4001000 ∧
    encode (.mod1 0 1 2) = 0xA5021000 ∧
    encode (.remi 0 3) = 0xA6000003 ∧
    encode (.rem0 0 1) = 0xA7001000 ∧
    encode (.rem1 0 1 2) = 0xA8021000 := by decide

theorem test_decode_shift :
    decodeTableWord 32 0xB0001231 = some (.shli 0 1) ∧
    decodeTableWord 32 0xB1000001 = some (.shri 0 1) ∧
    decodeTableWord 32 0xB2000001 = some (.sari 0 1) ∧
    decodeTableWord 32 0xB3001000 = some (.shl0 0 1) ∧
    decodeTableWord 32 0xB4001000 = some (.shr0 0 1) ∧
    decodeTableWord 32 0xB5001000 = some (.sar0 0 1) := by decide

theorem test_encode_shift :
    encode (.shri 0 1) = 0xB1000001 ∧
    encode (.sari 0 1) = 0xB2000001 ∧
    encode (.shl0 0 1) = 0xB3001000 ∧
    encode (.shr0 0 1) = 0xB4001000 ∧
    encode (.sar0 0 1) = 0xB5001000 := by decide

theorem test_decode_stackPalette :
    decodeTableWord 32 0xC0000003 = some (.push 3) ∧
    decodeTableWord 32 0xC1000005 = some (.pop 5) ∧
    decodeTableWord 32 0xC2000000 = some (.pushall) ∧
    decodeTableWord 32 0xC3000000 = some (.popall) ∧
    decodeTableWord 32 0xC4000000 = some (.pushf) ∧
    decodeTableWord 32 0xC5000000 = some (.popf) ∧
    decodeTableWord 32 0xD0002000 = some (.pal0 0x2000) ∧
    decodeTableWord 32 0xD1000001 = some (.pal1 1) := by decide

theorem test_encode_stackPalette :
    encode (.push 3) = 0xC0000003 ∧
    encode (.pop 5) = 0xC1000005 ∧
    encode (.pushall) = 0xC2000000 ∧
    encode (.popall) = 0xC3000000 ∧
    encode (.pushf) = 0xC4000000 ∧
    encode (.popf) = 0xC5000000 ∧
    encode (.pal0 0x2000) = 0xD0002000 ∧
    encode (.pal1 1) = 0xD1000001 := by decide

theorem test_decode_notNeg :
    decodeTableWord 32 0xE00500FF = some (.noti 5 0xFF) ∧
    decodeTableWord 32 0xE1000001 = some (.not0 1) ∧
    decodeTableWord 32 0xE2002001 = some (.not1 1 2) ∧
    decodeTableWord 32 0xE3000001 = some (.negi 0 1) ∧
    decodeTableWord 32 0xE4000000 = some (.neg0 0) ∧
    decodeTableWord 32 0xE5003001 = some (.neg1 1 3) := by decide

theorem test_encode_notNeg :
    encode (.noti 5 0xFF) = 0xE00500FF ∧
    encode (.not0 1) = 0xE1000001 ∧
    encode (.not1 1 2) = 0xE2002001 ∧
    encode (.negi 0 1) = 0xE3000001 ∧
    encode (.neg0 0) = 0xE4000000 ∧
    encode (.neg1 1 3) = 0xE5003001 := by decide

/-- The first and last byte of ranges of 30 R118 (95 V-DE). -/
theorem test_decode_unassigned :
    ([0x0F, 0x19, 0x1F, 0x25, 0x2F, 0x32, 0x3F, 0x43, 0x55, 0x65, 0x73, 0x83, 0x93, 0xA9, 0xB6, 0xC6,
      0xD2, 0xE6, 0xFF].map fun b => decodeTableWord 32 (b * 0x1000000 + 0x123456)) =
      List.replicate 19 none := by decide

/-! ### Steps -/

/-- 95 V-DM1. -/
theorem test_ldi0 : seen 15 (run (State.reset) 0x200FFFFF) = some (0xFFFF, 0x00, 0x0004) := by decide

/-- 95 V-DM2. -/
theorem test_ldi1 : seen 1 (run (State.reset) 0x21F10003) = some (0x0003, 0x00, 0x0004) := by decide

/-- 95 V-DM4. -/
theorem test_ldm0_top : seen 0 (run (bytesAt State.reset 0xFFFE [0xAB, 0xCD]) 0x2200FFFE) = some (0xABCD, 0x00, 0x0004) := by decide

/-- 95 V-DM5. -/
theorem test_ldm0_past_end : faultOf (run (State.reset) 0x2200FFFF) = some (.outOfBounds 0xFFFF 2) := by decide

/-- 95 V-DM6. -/
theorem test_ldm1_same_register : seen 2 (run (bytesAt (regs [(2, 0x0101)]) 0x0101 [0x5A, 0xA5]) 0x23002002) = some (0x5AA5, 0x00, 0x0004) := by decide

/-- 95 V-DM7. -/
theorem test_ldm1_past_end : faultOf (run (regs [(1, 0xFFFF)]) 0x23001000) = some (.outOfBounds 0xFFFF 2) := by decide

/-- 40 R144. -/
theorem test_mov : seen 1 (run (regs [(2, 0xBEEF)]) 0x24002001) = some (0xBEEF, 0x00, 0x0004) := by decide

/-- 95 V-DM9. -/
theorem test_stm0_at_zero : stacked 0x0000 (run (regs [(1, 0xBEEF)]) 0x30010000) = some (0xBEEF, 0x0000, 0x0004) := by decide

/-- 95 V-DM10. -/
theorem test_stm0_past_end : faultOf (run (regs [(1, 0xBEEF)]) 0x3001FFFF) = some (.outOfBounds 0xFFFF 2) := by decide

/-- 95 V-DM11. -/
theorem test_stm1_top : stacked 0xFFFE (run (regs [(1, 0x1234), (2, 0xFFFE)]) 0x31002001) = some (0x1234, 0x0000, 0x0004) := by decide

/-- 95 V-DM12. -/
theorem test_stm1_same_register : stacked 0x0300 (run (regs [(0, 0x0300)]) 0x31000000) = some (0x0300, 0x0000, 0x0004) := by decide

/-- 95 V-AR1. -/
theorem test_addi_overflow : seen 0 (run (regs [(0, 0x7FFF)]) 0x40000001) = some (0x8000, 0xC0, 0x0004) := by decide

/-- 95 V-AR5. -/
theorem test_addi_rewrites_flags : seen 0 (run (withFlags State.reset 0xC2) 0x40000000) = some (0x0000, 0x04, 0x0004) := by decide

/-- 95 V-AR2. -/
theorem test_add0_carry_zero : seen 0 (run (regs [(0, 0xFFFF), (1, 0x0001)]) 0x41001000) = some (0x0000, 0x06, 0x0004) := by decide

/-- 95 V-AR3. -/
theorem test_add1_all : seen 2 (run (regs [(0, 0x8000), (1, 0x8000)]) 0x42021000) = some (0x0000, 0x46, 0x0004) := by decide

/-- 95 V-AR6. -/
theorem test_subi_borrow : seen 0 (run (State.reset) 0x50000001) = some (0xFFFF, 0x82, 0x0004) := by decide

/-- 95 V-AR7. -/
theorem test_sub0_overflow : seen 0 (run (regs [(0, 0x8000), (1, 0x0001)]) 0x51001000) = some (0x7FFF, 0x40, 0x0004) := by decide

/-- 95 V-AR8. -/
theorem test_sub1_zero : seen 2 (run (regs [(0, 0x0005), (1, 0x0005)]) 0x52021000) = some (0x0000, 0x04, 0x0004) := by decide

/-- 95 V-AR10. -/
theorem test_cmpi_equal : seen 0 (run (regs [(0, 0x0005)]) 0x53000005) = some (0x0005, 0x04, 0x0004) := by decide

/-- 95 V-AR11. -/
theorem test_cmp_below : seen 0 (run (regs [(0, 0x0001), (1, 0x0002)]) 0x54001000) = some (0x0001, 0x82, 0x0004) := by decide

/-- 95 V-AR12. -/
theorem test_cmp_signed_greater : seen 0 (run (regs [(0, 0x7FFF), (1, 0xFFFF)]) 0x54001000) = some (0x7FFF, 0xC2, 0x0004) := by decide

/-- 95 V-AR13. -/
theorem test_muli_product_0x10000 : seen 0 (run (regs [(0, 0x0100)]) 0x90000100) = some (0x0000, 0x06, 0x0004) := by decide

/-- 95 V-AR14. -/
theorem test_mul0_minus_one_squared : seen 0 (run (regs [(0, 0xFFFF), (1, 0xFFFF)]) 0x91001000) = some (0x0001, 0x02, 0x0004) := by decide

/-- 95 V-AR15. -/
theorem test_mul1_fits : seen 2 (run (regs [(0, 0x00FF), (1, 0x0101)]) 0x92021000) = some (0xFFFF, 0x80, 0x0004) := by decide

/-- 95 V-AR17. -/
theorem test_divi_by_zero : faultOf (run (regs [(0, 0x0007)]) 0xA0000000) = some (.divisionByZero) := by decide

/-- 95 V-AR20. -/
theorem test_divi_truncates : seen 0 (run (regs [(0, 0xFFF9)]) 0xA0000003) = some (0xFFFE, 0x82, 0x0004) := by decide

/-- 95 V-AR21. -/
theorem test_div0_same_register : seen 0 (run (regs [(0, 0x0009)]) 0xA1000000) = some (0x0001, 0x00, 0x0004) := by decide

/-- 95 V-AR18. -/
theorem test_div0_by_zero : faultOf (run (regs [(0, 0x0007)]) 0xA1001000) = some (.divisionByZero) := by decide

/-- 95 V-AR19. -/
theorem test_div1_wraps : seen 2 (run (regs [(0, 0x8000), (1, 0xFFFF)]) 0xA2021000) = some (0x8000, 0x80, 0x0004) := by decide

/-- 95 V-AR23. -/
theorem test_modi_keeps_carry : seen 0 (run (withFlags (regs [(0, 0xFFF9)]) 0x02) 0xA3000003) = some (0x0002, 0x02, 0x0004) := by decide

/-- 95 V-AR26. -/
theorem test_mod0_zero : seen 0 (run (regs [(0, 0x8000), (1, 0xFFFF)]) 0xA4001000) = some (0x0000, 0x04, 0x0004) := by decide

/-- 95 V-AR22. -/
theorem test_mod0_by_zero : faultOf (run (regs [(0, 0x0007)]) 0xA4001000) = some (.divisionByZero) := by decide

/-- 95 V-AR24. -/
theorem test_mod1_divisor_sign : seen 2 (run (regs [(0, 0x0007), (1, 0xFFFD)]) 0xA5021000) = some (0xFFFE, 0x80, 0x0004) := by decide

/-- 95 V-AR28. -/
theorem test_remi_keeps_carry : seen 0 (run (withFlags (regs [(0, 0xFFF9)]) 0x02) 0xA6000003) = some (0xFFFF, 0x82, 0x0004) := by decide

/-- 95 V-AR27. -/
theorem test_remi_by_zero : faultOf (run (regs [(0, 0x0007)]) 0xA6000000) = some (.divisionByZero) := by decide

/-- 95 V-AR29. -/
theorem test_rem0_dividend_sign : seen 0 (run (regs [(0, 0x0007), (1, 0xFFFD)]) 0xA7001000) = some (0x0001, 0x00, 0x0004) := by decide

/-- 95 V-AR30. -/
theorem test_rem1 : seen 2 (run (regs [(0, 0xFFF9), (1, 0xFFFD)]) 0xA8021000) = some (0xFFFF, 0x80, 0x0004) := by decide

/-- 95 V-LO1. -/
theorem test_andi_keeps_carry : seen 0 (run (withFlags (regs [(0, 0xF0F0)]) 0x42) 0x60000F0F) = some (0x0000, 0x06, 0x0004) := by decide

/-- 95 V-LO2. -/
theorem test_and0 : seen 0 (run (regs [(0, 0xFFFF), (1, 0x8001)]) 0x61001000) = some (0x8001, 0x80, 0x0004) := by decide

/-- 95 V-LO3. -/
theorem test_and1 : seen 2 (run (regs [(0, 0x1234), (1, 0xFFFF)]) 0x62021000) = some (0x1234, 0x00, 0x0004) := by decide

/-- 95 V-LO4. -/
theorem test_tsti : seen 0 (run (regs [(0, 0x8001)]) 0x63008000) = some (0x8001, 0x80, 0x0004) := by decide

/-- 95 V-LO5. -/
theorem test_tst : seen 0 (run (withFlags (regs [(0, 0x00F0), (1, 0x0F00)]) 0x02) 0x64001000) = some (0x00F0, 0x06, 0x0004) := by decide

/-- 95 V-LO6. -/
theorem test_ori : seen 0 (run (withFlags State.reset 0x80) 0x70000000) = some (0x0000, 0x04, 0x0004) := by decide

/-- 95 V-LO7. -/
theorem test_or0 : seen 0 (run (regs [(0, 0x8000), (1, 0x0001)]) 0x71001000) = some (0x8001, 0x80, 0x0004) := by decide

/-- 95 V-LO8. -/
theorem test_or1 : seen 2 (run (regs [(0, 0x0F00), (1, 0x00F0)]) 0x72021000) = some (0x0FF0, 0x00, 0x0004) := by decide

/-- 95 V-LO9. -/
theorem test_xori : seen 0 (run (regs [(0, 0x1234)]) 0x8000FFFF) = some (0xEDCB, 0x80, 0x0004) := by decide

/-- 95 V-LO10. -/
theorem test_xor0 : seen 0 (run (withFlags (regs [(0, 0xBEEF)]) 0x40) 0x81000000) = some (0x0000, 0x04, 0x0004) := by decide

/-- 95 V-LO11. -/
theorem test_xor1 : seen 2 (run (regs [(0, 0xAAAA), (1, 0x5555)]) 0x82021000) = some (0xFFFF, 0x80, 0x0004) := by decide

/-- 95 V-LO12. -/
theorem test_noti : seen 0 (run (regs [(0, 0x1234)]) 0xE0000000) = some (0xFFFF, 0x80, 0x0004) := by decide

/-- 95 V-LO13. -/
theorem test_not0 : seen 0 (run (withFlags (regs [(0, 0xFFFF)]) 0x02) 0xE1000000) = some (0x0000, 0x06, 0x0004) := by decide

/-- 95 V-LO14. -/
theorem test_not1 : seen 0 (run (regs [(0, 0x5555), (1, 0x00FF)]) 0xE2001000) = some (0xFF00, 0x80, 0x0004) := by decide

/-- 95 V-LO15. -/
theorem test_negi_zero : seen 0 (run (State.reset) 0xE3000000) = some (0x0000, 0x04, 0x0004) := by decide

/-- 95 V-LO16. -/
theorem test_negi_min : seen 0 (run (State.reset) 0xE3008000) = some (0x8000, 0x80, 0x0004) := by decide

/-- 95 V-LO17. -/
theorem test_neg0 : seen 0 (run (withFlags (regs [(0, 0x0001)]) 0x02) 0xE4000000) = some (0xFFFF, 0x82, 0x0004) := by decide

/-- 95 V-LO18. -/
theorem test_neg1 : seen 0 (run (regs [(0, 0x0009), (1, 0xFFFF)]) 0xE5001000) = some (0x0001, 0x00, 0x0004) := by decide

/-- 95 V-SH1. -/
theorem test_shli_by_zero : seen 0 (run (withFlags (regs [(0, 0x8001)]) 0x42) 0xB0000000) = some (0x8001, 0x80, 0x0004) := by decide

/-- 95 V-SH2. -/
theorem test_shli_by_15 : seen 0 (run (regs [(0, 0x0003)]) 0xB000000F) = some (0x8000, 0x82, 0x0004) := by decide

/-- 95 V-SH4. -/
theorem test_shri_by_15 : seen 0 (run (regs [(0, 0x8000)]) 0xB100000F) = some (0x0001, 0x00, 0x0004) := by decide

/-- 95 V-SH5. -/
theorem test_shri_to_zero : seen 0 (run (regs [(0, 0x0001)]) 0xB1000001) = some (0x0000, 0x06, 0x0004) := by decide

/-- 95 V-SH6. -/
theorem test_sari_by_15 : seen 0 (run (regs [(0, 0x8000)]) 0xB200000F) = some (0xFFFF, 0x80, 0x0004) := by decide

/-- 95 V-SH7. -/
theorem test_sari_positive : seen 0 (run (regs [(0, 0x7FF0)]) 0xB2000004) = some (0x07FF, 0x00, 0x0004) := by decide

/-- 95 V-SH8. -/
theorem test_shl0_amount : seen 0 (run (regs [(0, 0x0001), (1, 0x0014)]) 0xB3001000) = some (0x0010, 0x00, 0x0004) := by decide

/-- 95 V-SH9. -/
theorem test_shl0_sixteen : seen 0 (run (regs [(0, 0x00FF), (1, 0x0010)]) 0xB3001000) = some (0x00FF, 0x00, 0x0004) := by decide

/-- 95 V-SH10. -/
theorem test_shr0 : seen 0 (run (regs [(0, 0xF000), (1, 0x000C)]) 0xB4001000) = some (0x000F, 0x00, 0x0004) := by decide

/-- 95 V-SH11. -/
theorem test_sar0 : seen 0 (run (regs [(0, 0x8000), (1, 0x0001)]) 0xB5001000) = some (0xC000, 0x80, 0x0004) := by decide

/-- 95 V-SH12. -/
theorem test_sar0_same_register : seen 0 (run (regs [(0, 0x0002)]) 0xB5000000) = some (0x0000, 0x06, 0x0004) := by decide

/-- 95 section 6: the sixteen conditions on the flags of the seven comparisons, code 0 first. -/
theorem test_conditions :
    ([0x04, 0x82, 0x00, 0x80, 0x02, 0x40, 0xC2].map fun b =>
      condTable.map (condHolds (flagsOfWord b))) =
    [[true, false, false, true, false, false, true, false, true, false, true, false, true, false, true, true],
     [false, true, true, false, false, false, true, false, false, true, true, false, false, true, true, true],
     [false, true, false, true, true, false, true, true, true, false, false, true, true, false, false, true],
     [false, true, true, false, false, false, true, true, true, false, false, false, false, true, true, true],
     [false, true, false, true, true, false, true, false, false, true, true, true, true, false, false, true],
     [false, true, false, true, true, true, false, true, true, false, false, false, false, true, true, true],
     [false, true, true, false, false, true, false, false, false, true, true, true, true, false, false, true]] := by
  decide

/-- 95 V-CT2. -/
theorem test_jmp0_target_unchecked : flow (run (State.reset) 0x1000FFFD) = some (0x00, 0xFFFD) := by decide

/-- 95 V-CT3. -/
theorem test_jmc_not_taken : flow (run (State.reset.setPc 0x0010) 0x11000200) = some (0x00, 0x0014) := by decide

/-- 44 R253. -/
theorem test_jmc_taken : flow (run ((withFlags State.reset 0x02).setPc 0x0010) 0x11000200) = some (0x02, 0x0200) := by decide

/-- 95 V-CT4. -/
theorem test_jx_always : flow (run (State.reset) 0x120F1234) = some (0x00, 0x1234) := by decide

/-- 95 V-CT5. -/
theorem test_jx_ignored_bits : flow (run (State.reset) 0x12F01234) = some (0x00, 0x0004) := by decide

/-- 95 V-CT6. -/
theorem test_jme_not_equal : flow (run (regs [(1, 0x0001), (2, 0x0002)]) 0x13210300) = some (0x00, 0x0004) := by decide

/-- 95 V-CT7. -/
theorem test_jme_same_register : flow (run (regs [(3, 0x0005)]) 0x13330300) = some (0x00, 0x0300) := by decide

/-- 95 V-CT8. -/
theorem test_jmp1_odd : flow (run (regs [(5, 0x0123)]) 0x16000005) = some (0x00, 0x0123) := by decide

/-- 95 V-CT9. -/
theorem test_call0_return_wraps : stacked 0xFFFE (run (bytesAt (State.reset.setPc 0xFFFC) 0xFFFC []) 0x14000100) = some (0x0000, 0xFFFE, 0x0100) := by decide

/-- 95 V-CT10. -/
theorem test_call0_overflow : faultOf (run (State.reset.setSp 0x0001) 0x14000100) = some (.stackOverflow 0x0001) := by decide

/-- 95 V-CT12. -/
theorem test_ret_empty : faultOf (run (State.reset) 0x15000000) = some (.stackUnderflow 0x0000) := by decide

/-- 95 V-CT14. -/
theorem test_ret : flow (run (bytesAt (State.reset.setSp 0xFFFC) 0xFFFC [0x00, 0x31]) 0x15000000) = some (0x00, 0x0031) := by decide

/-- 95 V-CT15. -/
theorem test_cx_not_taken : flow (run (State.reset.setSp 0x0001) 0x17000400) = some (0x00, 0x0004) := by decide

/-- 95 V-CT16. -/
theorem test_cx_overflow : faultOf (run (State.reset.setSp 0x0001) 0x170F0400) = some (.stackOverflow 0x0001) := by decide

/-- 95 V-CT17. -/
theorem test_call1 : stacked 0xFFFE (run ((regs [(2, 0x0300)]).setPc 0x0010) 0x18000002) = some (0x0014, 0xFFFE, 0x0300) := by decide

/-- 95 V-ST1. -/
theorem test_push_overflow : faultOf (run (State.reset.setSp 0x0001) 0xC0000001) = some (.stackOverflow 0x0001) := by decide

/-- 95 V-ST2. -/
theorem test_push_lowest : stacked 0x0000 (run ((regs [(1, 0x1111)]).setSp 0x0002) 0xC0000001) = some (0x1111, 0x0000, 0x0004) := by decide

/-- 95 V-ST4. -/
theorem test_pop_odd_top : faultOf (run (State.reset.setSp 0xFFFF) 0xC1000001) = some (.stackUnderflow 0xFFFF) := by decide

/-- 45 R281. -/
theorem test_pop : seen 5 (run (bytesAt (State.reset.setSp 0xFFFE) 0xFFFE [0xAB, 0xCD]) 0xC1000005) = some (0xABCD, 0x00, 0x0004) := by decide

/-- 95 V-ST6. -/
theorem test_pushall_overflow : faultOf (run (State.reset.setSp 0x001E) 0xC2000000) = some (.stackOverflow 0x001E) := by decide

/-- 45 R282. -/
theorem test_pushall : field (fun t => (readWord t.mem 0xFFFE, readWord t.mem 0xFFFC, readWord t.mem 0xFFE0, t.sp)) (run (regs [(0, 0x0100), (1, 0x0101), (15, 0x010F)]) 0xC2000000) = some (0x0100, 0x0101, 0x010F, 0xFFE0) := by decide

/-- 95 V-ST8. -/
theorem test_popall_fifteen_words : faultOf (run (State.reset.setSp 0xFFE2) 0xC3000000) = some (.stackUnderflow 0xFFE2) := by decide

/-- 95 V-ST9. -/
theorem test_popall : field (fun t => (t.reg 0, t.reg 14, t.reg 15, t.sp)) (run (bytesAt (bytesAt (State.reset.setSp 0xFFE0) 0xFFE0 [0x00, 0x01, 0x02, 0x03]) 0xFFFE [0x1E, 0x1F]) 0xC3000000) = some (0x1E1F, 0x0203, 0x0001, 0x0000) := by decide

/-- 95 V-ST11. -/
theorem test_pushf : stacked 0xFFFE (run (withFlags State.reset 0xC6) 0xC4000000) = some (0x00C6, 0xFFFE, 0x0004) := by decide

/-- 95 V-ST12. -/
theorem test_pushf_overflow : faultOf (run (State.reset.setSp 0x0001) 0xC4000000) = some (.stackOverflow 0x0001) := by decide

/-- 95 V-ST13. -/
theorem test_popf_unused_bits : flow (run (bytesAt (State.reset.setSp 0xFFFE) 0xFFFE [0xFF, 0xFF]) 0xC5000000) = some (0xC6, 0x0004) := by decide

/-- 95 V-ST14. -/
theorem test_popf_empty : faultOf (run (withFlags State.reset 0xC6) 0xC5000000) = some (.stackUnderflow 0x0000) := by decide

/-- 95 V-PE1. -/
theorem test_bgc : calls (run (State.reset) 0x03FFFFF7) = some ([.setBackground 7], .ok, 0x0004) := by decide

/-- 46 R301. -/
theorem test_spr : field (fun t => (t.sprW, t.sprH, t.calls)) (run State.reset 0x04001008) = some (0x08, 0x10, []) := by decide

/-- 95 V-PE3. -/
theorem test_drw0 : calls (run (((regs [(1, 0xFFFF)]).setSpr 8 8).setFlip true true) 0x05110020) = some ([.drawSprite 0x0020 0xFFFF 0xFFFF 8 8 0 true true], .ok, 0x0004) := by decide

/-- 46 R303. -/
theorem test_drw1 : calls (run (regs [(0, 5), (1, 6), (2, 0x4000)]) 0x06021000) = some ([.drawSprite 0x4000 5 6 0 0 0 false false], .ok, 0x0004) := by decide

/-- 46 R304 to R307. -/
theorem test_flip0 : field (fun t => (t.hflip, t.vflip)) (run (State.reset.setFlip true false) 0x08000000) = some (false, false) := by decide

/-- 46 R304 to R307. -/
theorem test_flip1 : field (fun t => (t.hflip, t.vflip)) (run (State.reset.setFlip true false) 0x08000001) = some (false, true) := by decide

/-- 46 R304 to R307. -/
theorem test_flip2 : field (fun t => (t.hflip, t.vflip)) (run (State.reset.setFlip true true) 0x08FFFFFE) = some (true, false) := by decide

/-- 46 R304 to R307. -/
theorem test_flip3 : field (fun t => (t.hflip, t.vflip)) (run (State.reset.setFlip false false) 0x08000003) = some (true, true) := by decide

/-- 95 V-PE7. -/
theorem test_pal0_top : field (fun t => (t.calls.length, t.calls[0]?, t.calls[1]?, t.calls[15]?)) (run (bytesAt (bytesAt State.reset 0xFFD0 [0x11, 0x22, 0x33]) 0xFFFD [0xAA, 0xBB, 0xCC]) 0xD000FFD0) = some (16, some (.setPalette 0 0x112233), some (.setPalette 1 0), some (.setPalette 15 0xAABBCC)) := by decide

/-- 95 V-PE8. -/
theorem test_pal0_past_end : faultOf (run (State.reset) 0xD000FFD1) = some (.outOfBounds 0xFFD1 48) := by decide

/-- 95 V-PE9. -/
theorem test_pal1_past_end : faultOf (run (regs [(3, 0xFFFF)]) 0xD1000003) = some (.outOfBounds 0xFFFF 48) := by decide

/-- 46 R310. -/
theorem test_pal1 : field (fun t => t.calls[0]?) (run (bytesAt (regs [(1, 0x2000)]) 0x2000 [0xFF, 0x00, 0x00]) 0xD1000001) = some (some (.setPalette 0 0xFF0000)) := by decide

/-- 95 V-PE10. -/
theorem test_snd0 : calls (run (State.reset.setEnv 1 2 3 4) 0x09000000) = some ([.playTone 0 0 0 1 2 3 4], .ok, 0x0004) := by decide

/-- 95 V-PE11. -/
theorem test_snd1 : calls (run (State.reset) 0x0AFF0000) = some ([.playTone 0 500 0 0 0 0 0], .ok, 0x0004) := by decide

/-- 95 V-PE12. -/
theorem test_snd2 : calls (run (State.reset.setEnv 15 15 15 15) 0x0B00FFFF) = some ([.playTone 0 1000 65535 15 15 15 15], .ok, 0x0004) := by decide

/-- 95 V-PE13. -/
theorem test_snd3 : calls (run (State.reset) 0x0C000001) = some ([.playTone 0 1500 1 0 0 0 0], .ok, 0x0004) := by decide

/-- 95 V-PE14. -/
theorem test_snp_past_end : faultOf (run (regs [(0, 0xFFFF)]) 0x0D000010) = some (.outOfBounds 0xFFFF 2) := by decide

/-- 95 V-PE15. -/
theorem test_snp_top : calls (run (bytesAt (regs [(1, 0xFFFE)]) 0xFFFE [0x03, 0xE8]) 0x0D010010) = some ([.playTone 0 1000 16 0 0 0 0], .ok, 0x0004) := by decide

/-- 95 V-PE16. -/
theorem test_sng : calls (run (State.reset.setEnv 1 2 3 4) 0x0EFF0000) = some ([.playTone 0 0 0 15 15 0 0], .ok, 0x0004) := by decide

/-- 46 R317. -/
theorem test_sng_envelope : field (fun t => (t.envA, t.envD, t.envS, t.envR)) (run State.reset 0x0E12F345) = some (1, 2, 4, 5) := by decide

/-- 95 V-PE17: the bound 0 gives 0 for every generator. -/
theorem test_rnd_bound_zero : seen 1 (execRnd 1 0 (regs [(1, 0x1234)])) = some (0, 0x00, 4) := by
  have h : (rngDraw (regs [(1, 0x1234)]).rng 0).1 = 0 := rngDraw_zero _
  simp only [execRnd, h]
  decide

/-- 95 V-PE18. -/
theorem test_vblnk : calls (run (State.reset.setPc 0xFFFC) 0x02000000) = some ([.waitVblank], .yield, 0x0000) := by decide

/-- 95 V-PE19. -/
theorem test_nop : calls (run (State.reset) 0x00123456) = some ([], .ok, 0x0004) := by decide

/-- 95 V-PE20. -/
theorem test_cls : field (fun t => (t.calls, t.bgc, t.pc)) (run (State.reset.setBgc 5) 0x01000000) = some ([.clearScreen], 5, 4) := by decide

/-- 95 S6. -/
theorem test_unknown_opcode : faultOf (run (State.reset) 0x0F000000) = some (.unknownOpcode 0x0F) := by decide

/-- 95 S5. -/
theorem test_fetch_past_end : faultOf (step (bytesAt (State.reset.setPc 0xFFFD) 0xFFFD [0x0F])) = some (.outOfBounds 0xFFFD 4) := by decide

/-- 46 R320: a word of zeros is NOP. -/
theorem test_step_from_reset : field (fun t => t.pc) (step State.reset) = some 4 := by decide

/-- 20 R86. -/
theorem test_store_then_fetch : faultOf (step ((State.reset.setPc 4).setMem (writeWord [] 4 0x0F00))) = some (.unknownOpcode 0x0F) := by decide

/-- log 6. -/
theorem test_canonical_write_of_zero : writeByte (writeByte (writeByte [] 5 1) 3 2) 5 0 = [(3, 2)] := by decide

/-- 70 R443. -/
theorem test_load_does_not_fit : (hostLoad State.reset.toCoreState 0xFFFF [1, 2]).isNone = true := by decide

/-- 95 S1. -/
theorem test_yield_returned : (hostStep (State.reset.withFetchWord 32 0x02000000).toCoreState).toOption.map (·.2) = some (.yield, [.waitVblank]) := by decide

/-! ### Witnesses

For every statement with hypotheses, a state and operands that meet them, clause by clause, at the
boundary of each range. -/

/-- A state whose sp is v. -/
def atSp (v : Word) : State := State.reset.setSp v

/-- A state whose pc is v. -/
def atPc (v : Word) : State := State.reset.setPc v

theorem witness_decodes_by_opcode : bitsAt 0x20FF0000 31 24 = 0x20 ∧ bitsAt 0x080000FE 31 24 = 8 ∧
    bitsAt 0x080000FE 1 0 = 2 := by decide

theorem witness_DecodeInvertsEncode : decodeWord 0x10FF1234 = .ok (.jmp0 0x1234) ∧
    Unassigned (bitsAt 0x0FABCDEF 31 24) ∧
    Unassigned (bitsAt 0xFF000000 31 24) ∧ Unassigned (bitsAt 0xE6FFFFFF 31 24) :=
  ⟨by decide, by unfold Unassigned; decide, by unfold Unassigned; decide, by unfold Unassigned; decide⟩

theorem witness_IgnoredBitsDoNotAffectDecoding :
    decodeWord 0x10FF1234 = .ok (.jmp0 0x1234) ∧
    (0x10FF1234 : InstrWord) &&& ~~~ (Instr.jmp0 0x1234).format.ignored =
      0x10001234 &&& ~~~ (Instr.jmp0 0x1234).format.ignored := by decide

theorem witness_IgnoredBits_assigned :
    ¬ Unassigned (bitsAt 0xE5FFFFFF 31 24) ∧ ¬ Unassigned (bitsAt 0x00000000 31 24) := by
  unfold Unassigned; decide

/-- LDM, STM and SNP: the last address that loads and the one that faults. -/
theorem witness_word_access : (0xFFFE : Word) ≠ 0xFFFF ∧ (regs [(2, 0xFFFE)]).reg 2 ≠ 0xFFFF ∧
    (regs [(2, 0xFFFF)]).reg 2 = 0xFFFF := by decide

/-- DIV, MOD and REM: a divisor of 0, and the quotient that wraps. -/
theorem witness_division : (0xFFFF : Word) ≠ 0 ∧ (regs [(1, 0x8000), (2, 0xFFFF)]).reg 2 ≠ 0 ∧
    (regs [(1, 0x8000)]).reg 2 = 0 := by decide

theorem witness_JumpsChangeOnlyPc :
    (withFlags State.reset 0x02).flags.c = true ∧ State.reset.flags.c = false ∧
    CondSpec (withFlags State.reset 0x04).flags .le ∧ ¬ CondSpec State.reset.flags .le ∧
    State.reset.reg 3 = State.reset.reg 4 ∧ (regs [(3, 1)]).reg 3 ≠ (regs [(3, 1)]).reg 4 := by
  simp only [CondSpec]; decide

/-- Pushes: the empty stack, sp = 2 (the last room) and sp = 1 (none). -/
theorem witness_pushes : (atSp 0).sp ≠ 1 ∧ (atSp 2).sp ≠ 1 ∧ (atSp 1).sp = 1 := by decide

theorem witness_ConditionalCall :
    CondSpec (atSp 2).flags .nz ∧ (atSp 2).sp ≠ 1 ∧ CondSpec (atSp 1).flags .nz ∧ (atSp 1).sp = 1 ∧
    ¬ CondSpec (atSp 1).flags .z := by
  simp only [CondSpec]; decide

/-- Pops: the highest word, and the two positions that underflow. -/
theorem witness_pops : (atSp 0xFFFE).sp ≠ 0 ∧ (atSp 0xFFFE).sp ≠ 0xFFFF ∧ (atSp 0).sp = 0 ∧
    (atSp 0xFFFF).sp = 0xFFFF := by decide

theorem witness_CallThenReturn : (atSp 0).sp ≠ 1 ∧ (atSp 0).sp ≠ 2 ∧
    ∃ t, exec (.call0 0x0300) (atSp 0) = .next t ∧ KeepsMem t (t.setReg 1 7) :=
  ⟨by decide, by decide, _, rfl, fun _ => rfl⟩

theorem witness_PopFlags : (atSp 4).sp ≠ 1 ∧ (atSp 4).sp ≠ 2 ∧
    ∃ t, exec .pushf (atSp 4) = .next t ∧ KeepsMem t (t.setFlags ⟨true, true, true, true⟩) :=
  ⟨by decide, by decide, _, rfl, fun _ => rfl⟩

/-- PUSHALL: 0x20 pushes, 0x1F and 1 overflow. -/
theorem witness_PushAllLayout : (atSp 0).sp = 0 ∧ 32 ≤ (atSp 0x20).sp.toNat ∧
    1 ≤ (atSp 1).sp.toNat ∧ (atSp 1).sp.toNat ≤ 0x1F ∧ (atSp 0x1F).sp.toNat ≤ 0x1F := by decide

/-- POPALL: 0xFFE0 pops, 0xFFE1 and 0 underflow. -/
theorem witness_PopAllLayout : (atSp 0xFFE0).sp ≠ 0 ∧ (atSp 0xFFE0).sp.toNat ≤ 0xFFE0 ∧
    (atSp 0).sp = 0 ∧ 0xFFE0 < (atSp 0xFFE1).sp.toNat := by decide

theorem witness_PushAllThenPopAll : 32 < (atSp 0x22).sp.toNat ∧
    ∃ t, exec .pushall (atSp 0x22) = .next t ∧ KeepsMem t (t.setReg 1 7) :=
  ⟨by decide, _, rfl, fun _ => rfl⟩

/-- The palette table: 0xFFD0 is the last address that fits. -/
theorem witness_PaletteInstructions : (0xFFD0 : Word).toNat ≤ 0xFFD0 ∧
    0xFFD0 < (0xFFD1 : Word).toNat ∧ (regs [(1, 0xFFD0)]).reg 1 = 0xFFD0 := by decide

theorem witness_StepRunsTheDecodedInstruction :
    let s := (atPc 0xFFFC).withFetchWord 32 0x20030007
    s.pc.toNat + 4 ≤ 65536 ∧ (Instr.ldi0 3 7).wellFormed = true ∧
    decodeWord (wordOfBytes (readByte s.mem s.pc.toNat) (readByte s.mem (s.pc.toNat + 1))
      (readByte s.mem (s.pc.toNat + 2)) (readByte s.mem (s.pc.toNat + 3))) = .ok (.ldi0 3 7) := by decide

theorem witness_StepFaultPriority :
    65536 < (atPc 0xFFFD).pc.toNat + 4 ∧ (atPc 0xFFFC).pc.toNat + 4 ≤ 65536 ∧
    Unassigned (readByte (bytesAt State.reset 0 [0x0F]).mem 0).toNat ∧
    ¬ Unassigned (readByte State.reset.mem 0).toNat := by
  unfold Unassigned; decide

theorem witness_YieldExactlyAfterVblnk :
    (∃ t, run State.reset 0x02000000 = .next t ∧ t.result = .yield) ∧
    ∃ t, run State.reset 0x00000000 = .next t ∧ t.result = .ok :=
  ⟨⟨_, rfl, rfl⟩, ⟨_, rfl, rfl⟩⟩

/-- One instruction of each class that faults. -/
theorem witness_FaultsOfEachInstruction :
    exec (.ldm0 1 0xFFFF) State.reset = .fault (.outOfBounds 0xFFFF 2) ∧
    exec (.pal0 0xFFD1) State.reset = .fault (.outOfBounds 0xFFD1 48) ∧
    exec (.rem1 1 2 3) State.reset = .fault .divisionByZero ∧
    exec .pushall (atSp 0x1F) = .fault (.stackOverflow 0x1F) ∧
    exec .popf State.reset = .fault (.stackUnderflow 0) := ⟨rfl, rfl, rfl, rfl, rfl⟩

theorem witness_FaultChangesNothingAndRepeats :
    hostStep (atPc 0xFFFD).toCoreState =
      .ok ((atPc 0xFFFD).toCoreState, .fault (.outOfBounds 0xFFFD 4), []) := rfl

/-- A state that is not reset: memory, bgc and sp at their limits. -/
theorem witness_EveryStepKeepsTheInvariant :
    StateInv (bytesAt ((atSp 0xFFFE).setBgc 15) 0xFFFF [0xFF]) ∧
    ∃ t, step (bytesAt ((atSp 0xFFFE).setBgc 15) 0xFFFF [0xFF]) = .next t :=
  ⟨by unfold StateInv; decide, _, rfl⟩

theorem witness_MixedWidthAccesses : (0xFFFC : Nat) ≠ 0xFFFD ∧ (0xFFFC : Nat) ≠ 0xFFFD + 1 ∧
    (0xFFFF : Nat) ≠ 0xFFFD + 1 := by decide

/-- One instruction of each class of flag writer. -/
theorem witness_FlagWriters :
    (writesAllFlags (.mov 1 2) = false ∧ keepsCarry (.mov 1 2) = false) ∧
    keepsCarry (.andi 1 2) = true ∧ clearsOverflow (.shli 1 2) = true ∧
    (∃ t, exec (.mov 1 2) State.reset = .next t) ∧ (∃ t, exec (.andi 1 2) State.reset = .next t) ∧
    ∃ t, exec (.shli 1 2) State.reset = .next t :=
  ⟨by decide, by decide, by decide, ⟨_, rfl⟩, ⟨_, rfl⟩, ⟨_, rfl⟩⟩

theorem witness_noninterference : readsFlags (.addi 1 2) = false ∧ usesRng (.spr 0x0508) = false ∧
    pushes (.jmp1 3) = false ∧ pops (.jmp1 3) = false := by decide

theorem witness_PeripheralRegisterWriters :
    writesSprite (.cls) = false ∧ writesEnv (.snd1 5) = false ∧
    (∃ t, exec .cls State.reset = .next t) ∧ ∃ t, exec (.snd1 5) State.reset = .next t :=
  ⟨by decide, by decide, ⟨_, rfl⟩, ⟨_, rfl⟩⟩

theorem witness_OutputRecordsAreOnlyWritten : makesCall .flip3 = false ∧
    ∃ t, exec .flip3 State.reset = .next t := ⟨by decide, _, rfl⟩

/-- Two bytes fit at 0xFFFE and do not at 0xFFFF. -/
theorem witness_LoadCopiesTheImage : 65536 < 0xFFFF + [1, 2].length ∧
    0xFFFE + [1, 2].length ≤ 65536 := by decide

theorem witness_HostAccessors : (32768 : Nat) ≠ 65536 ∧ (15 : Nat) < 16 ∧ (15 : Reg).val = 15 := by
  decide

theorem witness_WithFetchWordRunsTheWord : (0x08FFFFFF : Nat) < 2 ^ 32 ∧
    decodeWord (BitVec.ofNat 32 0x08FFFFFF) = .ok .flip3 ∧ (atPc 0xFFFC).pc.toNat + 4 ≤ 65536 := by
  decide

/-- States with records already in them: a step that commits and a step that faults. -/
theorem witness_OutcomeIsReturnedAndNotKept :
    (∃ t, step ((State.reset.emit .clearScreen).setResult .yield) = .next t) ∧
    ∃ f, step (((atPc 0xFFFD).emit .clearScreen).setResult .yield) = .fault f :=
  ⟨⟨_, rfl⟩, ⟨_, rfl⟩⟩

end Sys2Proof.Tests
end

section
/-! SUPPORT. The writes an instruction may make: each next state of `exec` is reached from the state it
began with by named writes, and a fact that each of these writes keeps is kept by the instruction. -/

open Sys2Proof Sys2Proof.Machine

namespace Sys2Proof.Machine

/-- One write of a named part of the state, guarded by what the spec allows instruction i (10 R39, R41,
R42). A memory write keeps the canonical form, and a write of sp keeps its parity. -/
inductive Write (i : Instr) : State → State → Prop
  | reg (s : State) (x : Reg) (v : Word) : Write i s (s.setReg x v)
  | regs (s : State) (v : Vector Word 16) : Write i s (s.setRegs v)
  | pc (s : State) (a : Word) : Write i s (s.setPc a)
  | rng (s : State) (g : Config.RngState) : Write i s (s.setRng g)
  | calls (s : State) (cs : List Call) : Write i s (s.emitAll cs)
  | result (s : State) (r : StepResult) : Write i s (s.setResult r)
  | flags (s : State) (f : Flags) (allowed : writesAllFlags i = true ∨ keepsCarry i = true) :
      Write i s (s.setFlags f)
  | bgc (s : State) (n : Nibble) (allowed : writesSprite i = true) :
      Write i s (s.setBgc (n.setWidth 8))
  | spr (s : State) (w h : Byte) (allowed : writesSprite i = true) : Write i s (s.setSpr w h)
  | flip (s : State) (h v : Bool) (allowed : writesSprite i = true) : Write i s (s.setFlip h v)
  | env (s : State) (a d sus rel : Nibble) (allowed : writesEnv i = true) :
      Write i s (s.setEnv a d sus rel)
  | mem (s : State) (m : Memory) (canonical : Memory.wf s.mem → Memory.wf m) :
      Write i s (s.setMem m)
  | sp (s : State) (v : Word) (parity : v.toNat % 2 = s.sp.toNat % 2) : Write i s (s.setSp v)

/-- Any number of writes, one after the other. -/
abbrev Writes (i : Instr) : State → State → Prop := Relation.ReflTransGen (Write i)

variable {i : Instr} {s t u : State}

/-- What each write of an instruction keeps, any number of them keeps. -/
theorem Writes.keeps {p : State → Prop} (hp : ∀ a b, Write i a b → p a → p b)
    (h : Writes i s t) (hs : p s) : p t := by
  induction h with
  | refl => exact hs
  | tail _ hw ih => exact hp _ _ hw ih

/-! ### The operand forms -/

theorem writes_finish (hu : Writes i s u) (h : finish u = .next t) : Writes i s t := by
  cases h; exact hu.tail (.pc _ _)

theorem writes_jumpTo {a : Word} (hu : Writes i s u) (h : jumpTo u a = .next t) : Writes i s t := by
  cases h; exact hu.tail (.pc _ _)

theorem writes_regResult {d : Reg} {v : Word} (hu : Writes i s u)
    (h : regResult u d v = .next t) : Writes i s t :=
  writes_finish (hu.tail (.reg _ d v)) h

theorem writes_emitResult {c : Call} (hu : Writes i s u) (h : emitResult u c = .next t) :
    Writes i s t :=
  writes_finish (hu.tail (.calls _ [c])) h

theorem writes_aluFlagsOnly {o : AluOut} (hf : writesAllFlags i = true ∨ keepsCarry i = true)
    (h : aluFlagsOnly s o = .next t) : Writes i s t :=
  writes_finish (.single (.flags s o.2 hf)) h

theorem writes_aluResult {d : Reg} {o : AluOut} (hf : writesAllFlags i = true ∨ keepsCarry i = true)
    (h : aluResult s d o = .next t) : Writes i s t :=
  writes_finish ((Relation.ReflTransGen.single (.reg s d o.1)).tail (.flags _ o.2 hf)) h

theorem writes_divResult {d : Reg} {o : Except Fault AluOut}
    (hf : writesAllFlags i = true ∨ keepsCarry i = true) (h : divResult s d o = .next t) :
    Writes i s t := by
  obtain ⟨r, -, hr⟩ := orRaise_eq_next h
  exact writes_aluResult hf hr

theorem writes_loadResult {d : Reg} {a : Word} (h : loadResult s d a = .next t) : Writes i s t := by
  obtain ⟨v, -, hv⟩ := orRaise_eq_next h
  exact writes_regResult .refl hv

theorem writes_storeResult {a v : Word} (h : storeResult s a v = .next t) : Writes i s t := by
  obtain ⟨u, hu, hf⟩ := orRaise_eq_next h
  obtain ⟨ha, rfl⟩ := memWrite2_inv hu
  exact writes_finish (.single (.mem s _ fun hm => wf_writeWord _ _ v hm ha)) hf

theorem writes_loadPalette {a : Word} (h : orRaise (loadPalette s a) finish = .next t) :
    Writes i s t := by
  obtain ⟨u, hu, hf⟩ := orRaise_eq_next h
  obtain ⟨-, rfl⟩ := loadPalette_inv hu
  exact writes_finish (.single (.calls s _)) hf

/-! ### The stack -/

/-- A move of sp by an even distance from the stack position keeps the parity of sp. -/
theorem parity_ofNat {p : Nat} {sp : Word} (h : p % 2 = stackPos sp % 2) :
    (BitVec.ofNat 16 p).toNat % 2 = sp.toNat % 2 := by
  have hs := stackPos_mod sp
  simp only [BitVec.toNat_ofNat]
  omega

theorem push_writes {v : Word} (h : push s v = .ok u) : Writes i s u := by
  obtain ⟨hroom, rfl⟩ := push_inv h
  have htop := (stackPos_bounds s.sp).2
  have hmem : Write i s (s.setMem (writeWord s.mem (stackPos s.sp - 2) v)) :=
    .mem s _ fun hm => wf_writeWord _ _ v hm (by simp only [memSize_eq]; omega)
  exact (Relation.ReflTransGen.single hmem).tail (.sp _ _ (parity_ofNat (sp := s.sp) (by omega)))

theorem pushAll_writes (h : pushAll s = .ok u) : Writes i s u := by
  obtain ⟨hroom, rfl⟩ := pushAll_inv h
  have htop := (stackPos_bounds s.sp).2
  have hmem : Write i s (s.setMem (writeDown s.mem (stackPos s.sp) s.regs.toList)) :=
    .mem s _ fun hm => wf_writeDown _ _ _ hm htop (by simpa using hroom)
  exact (Relation.ReflTransGen.single hmem).tail (.sp _ _ (parity_ofNat (sp := s.sp) (by omega)))

theorem pop_writes {v : Word} (h : pop s = .ok (v, u)) : Writes i s u := by
  obtain ⟨-, -, rfl⟩ := pop_inv h
  exact .single (.sp s _ (parity_ofNat (by omega)))

theorem popAll_writes (h : popAll s = .ok u) : Writes i s u := by
  obtain ⟨-, rfl⟩ := popAll_inv h
  exact (Relation.ReflTransGen.single (.regs s _)).tail (.sp _ _ (parity_ofNat (sp := s.sp) (by omega)))

theorem writes_push {v : Word} (h : orRaise (push s v) finish = .next t) : Writes i s t := by
  obtain ⟨u, hu, hf⟩ := orRaise_eq_next h
  exact writes_finish (push_writes hu) hf

theorem writes_callTo {a : Word} (h : callTo s a = .next t) : Writes i s t := by
  obtain ⟨u, hu, hj⟩ := orRaise_eq_next h
  exact writes_jumpTo (push_writes hu) hj

/-! ### Every instruction -/

/-- All that an instruction that answers a next state has done is writes it is allowed. -/
theorem exec_writes (h : exec i s = .next t) : Writes i s t := by
  cases i with
  | nop => exact writes_finish .refl h
  | cls | drw0 | drw1 | snd0 | snd1 | snd2 | snd3 => exact writes_emitResult .refl h
  | vblnk =>
    exact writes_finish ((Relation.ReflTransGen.single (.calls s _)).tail (.result _ _)) h
  | bgc n => exact writes_emitResult (.single (.bgc s n rfl)) h
  | spr => exact writes_finish (.single (.spr s _ _ rfl)) h
  | flip0 | flip1 | flip2 | flip3 => exact writes_finish (.single (.flip s _ _ rfl)) h
  | sng => exact writes_emitResult (.single (.env s _ _ _ _ rfl)) h
  | rnd => exact writes_regResult (.single (.rng s _)) h
  | snp =>
    obtain ⟨v, -, hv⟩ := orRaise_eq_next h
    exact writes_emitResult .refl hv
  | pal0 | pal1 => exact writes_loadPalette h
  | jmp0 | jmp1 => exact writes_jumpTo .refl h
  | jmc | jx | jme =>
    obtain ⟨-, h⟩ | ⟨-, h⟩ := ite_eq_iff.mp h
    · exact writes_jumpTo .refl h
    · exact writes_finish .refl h
  | call0 | call1 => exact writes_callTo h
  | cx =>
    obtain ⟨-, h⟩ | ⟨-, h⟩ := ite_eq_iff.mp h
    · exact writes_callTo h
    · exact writes_finish .refl h
  | ret =>
    obtain ⟨⟨v, u⟩, hu, hj⟩ := orRaise_eq_next h
    exact writes_jumpTo (pop_writes hu) hj
  | ldi0 | ldi1 | mov => exact writes_regResult .refl h
  | ldm0 | ldm1 => exact writes_loadResult h
  | stm0 | stm1 => exact writes_storeResult h
  | addi | add0 | add1 | subi | sub0 | sub1 | muli | mul0 | mul1
  | shli | shri | sari | shl0 | shr0 | sar0 => exact writes_aluResult (.inl rfl) h
  | cmpi | cmp => exact writes_aluFlagsOnly (.inl rfl) h
  | divi | div0 | div1 => exact writes_divResult (.inl rfl) h
  | modi | mod0 | mod1 | remi | rem0 | rem1 => exact writes_divResult (.inr rfl) h
  | andi | and0 | and1 | ori | or0 | or1 | xori | xor0 | xor1
  | noti | not0 | not1 | negi | neg0 | neg1 => exact writes_aluResult (.inr rfl) h
  | tsti | tst => exact writes_aluFlagsOnly (.inr rfl) h
  | push | pushf => exact writes_push h
  | pushall =>
    obtain ⟨u, hu, hf⟩ := orRaise_eq_next h
    exact writes_finish (pushAll_writes hu) hf
  | popall =>
    obtain ⟨u, hu, hf⟩ := orRaise_eq_next h
    exact writes_finish (popAll_writes hu) hf
  | pop =>
    obtain ⟨⟨v, u⟩, hu, hf⟩ := orRaise_eq_next h
    exact writes_regResult (pop_writes hu) hf
  | popf =>
    obtain ⟨⟨v, u⟩, hu, hf⟩ := orRaise_eq_next h
    exact writes_finish ((pop_writes hu).tail (.flags u _ (.inl rfl))) hf

/-- A fact that each write of an instruction keeps is kept by the instruction. -/
theorem exec_keeps {p : State → Prop} (hp : ∀ a b, Write i a b → p a → p b)
    (h : exec i s = .next t) (hs : p s) : p t :=
  (exec_writes h).keeps hp hs

/-! ### What the writes keep -/

theorem Write.stateInv (h : Write i s t) (hs : StateInv s) : StateInv t := by
  obtain ⟨hmem, hbgc, hsp⟩ := hs
  cases h with
  | bgc n =>
    have hn : n.toNat < 16 := n.isLt
    exact ⟨hmem, by simp only [State.setBgc_bgc, BitVec.toNat_setWidth]; omega, hsp⟩
  | mem m canonical => exact ⟨canonical hmem, hbgc, hsp⟩
  | sp v parity => exact ⟨hmem, hbgc, parity.trans hsp⟩
  | reg | regs | pc | rng | calls | result | flags | spr | flip | env => exact ⟨hmem, hbgc, hsp⟩

theorem Write.flags_eq (h : Write i s t) (hall : writesAllFlags i = false)
    (hcarry : keepsCarry i = false) : t.flags = s.flags := by
  cases h with
  | flags f allowed => simp [hall, hcarry] at allowed
  | reg | regs | pc | rng | calls | result | bgc | spr | flip | env | mem | sp => rfl

theorem Write.keepsSprite (h : Write i s t) (hi : writesSprite i = false) : KeepsSprite s t := by
  cases h with
  | bgc _ allowed | spr _ _ allowed | flip _ _ allowed => simp [hi] at allowed
  | reg | regs | pc | rng | calls | result | flags | env | mem | sp =>
    exact ⟨rfl, rfl, rfl, rfl, rfl⟩

theorem Write.keepsEnv (h : Write i s t) (hi : writesEnv i = false) : KeepsEnv s t := by
  cases h with
  | env _ _ _ _ allowed => simp [hi] at allowed
  | reg | regs | pc | rng | calls | result | flags | bgc | spr | flip | mem | sp =>
    exact ⟨rfl, rfl, rfl, rfl⟩

theorem KeepsSprite.trans (h₁ : KeepsSprite s t) (h₂ : KeepsSprite t u) : KeepsSprite s u := by
  obtain ⟨hb, hw, hh, hf, hv⟩ := h₁
  obtain ⟨hb', hw', hh', hf', hv'⟩ := h₂
  exact ⟨hb'.trans hb, hw'.trans hw, hh'.trans hh, hf'.trans hf, hv'.trans hv⟩

theorem KeepsEnv.trans (h₁ : KeepsEnv s t) (h₂ : KeepsEnv t u) : KeepsEnv s u := by
  obtain ⟨ha, hd, hs, hr⟩ := h₁
  obtain ⟨ha', hd', hs', hr'⟩ := h₂
  exact ⟨ha'.trans ha, hd'.trans hd, hs'.trans hs, hr'.trans hr⟩

end Sys2Proof.Machine

/-! ### The invariant and the peripheral registers -/

/-- Settles O44: each write an instruction may make keeps the invariant. -/
theorem everyStepKeepsTheInvariant : Obligations.EveryStepKeepsTheInvariant := by
  intro s t hs h
  obtain ⟨w, i, -, -, hx⟩ := step_eq_next h
  have hbegin : StateInv s.beginStep := hs
  exact exec_keeps (fun _ _ => Write.stateInv) hx hbegin

/-- Settles O53: only the instructions of each class make a write of its registers. -/
theorem peripheralRegisterWriters : Obligations.PeripheralRegisterWriters := by
  intro s t i h
  refine ⟨fun hi => ?_, fun hi => ?_⟩
  · exact exec_keeps (fun _ _ hw hk => KeepsSprite.trans hk (hw.keepsSprite hi)) h
      ⟨rfl, rfl, rfl, rfl, rfl⟩
  · exact exec_keeps (fun _ _ hw hk => KeepsEnv.trans hk (hw.keepsEnv hi)) h
      ⟨rfl, rfl, rfl, rfl⟩
end

section
/-! SUPPORT. What the flag-writing instructions leave in C and O (10 R39). -/

open Sys2Proof Sys2Proof.Machine

namespace Sys2Proof.Machine

/-! ### The results of the ALU -/

/-- A shift's result does not depend on the flags before it. -/
theorem aluShl_fst (f : Flags) (a : Word) (n : Nibble) :
    (aluShl f a n).1 = if n = 0 then a else a <<< n.toNat := by
  unfold aluShl; split <;> rfl

theorem aluShr_fst (f : Flags) (a : Word) (n : Nibble) :
    (aluShr f a n).1 = if n = 0 then a else a >>> n.toNat := by
  unfold aluShr; split <;> rfl

theorem aluSar_fst (f : Flags) (a : Word) (n : Nibble) :
    (aluSar f a n).1 = if n = 0 then a else BitVec.ofInt 16 (a.toInt >>> n.toNat) := by
  unfold aluSar; split <;> rfl

@[simp] theorem aluShl_o (f : Flags) (a : Word) (n : Nibble) : (aluShl f a n).2.o = false := by
  unfold aluShl; split <;> rfl

@[simp] theorem aluShr_o (f : Flags) (a : Word) (n : Nibble) : (aluShr f a n).2.o = false := by
  unfold aluShr; split <;> rfl

@[simp] theorem aluSar_o (f : Flags) (a : Word) (n : Nibble) : (aluSar f a n).2.o = false := by
  unfold aluSar; split <;> rfl

@[simp] theorem aluMul_o (f : Flags) (a b : Word) : (aluMul f a b).2.o = false := rfl

@[simp] theorem aluLogic_o (f : Flags) (r : Word) : (aluLogic f r).2.o = false := rfl

@[simp] theorem aluLogic_c (f : Flags) (r : Word) : (aluLogic f r).2.c = f.c := rfl

theorem divChecked_inv {b : Word} {o r : AluOut} (h : divChecked b o = .ok r) : r = o := by
  by_cases hb : b = 0
  · rw [hb, divChecked_zero] at h
    exact nomatch h
  · rw [divChecked_ne o hb] at h
    exact (Except.ok.inj h).symm

theorem aluDiv_o {f : Flags} {a b : Word} {r : AluOut} (h : aluDiv f a b = .ok r) :
    r.2.o = false := by
  rw [divChecked_inv h]; rfl

theorem aluMod_flags {f : Flags} {a b : Word} {r : AluOut} (h : aluMod f a b = .ok r) :
    r.2.o = false ∧ r.2.c = f.c := by
  rw [divChecked_inv h]; exact ⟨rfl, rfl⟩

theorem aluRem_flags {f : Flags} {a b : Word} {r : AluOut} (h : aluRem f a b = .ok r) :
    r.2.o = false ∧ r.2.c = f.c := by
  rw [divChecked_inv h]; exact ⟨rfl, rfl⟩

/-! ### The flags after an operand form -/

variable {i : Instr} {s t : State} {d : Reg} {o : AluOut}

theorem flags_of_aluResult (h : aluResult s d o = .next t) : t.flags = o.2 := by
  cases h; rfl

theorem flags_of_aluFlagsOnly (h : aluFlagsOnly s o = .next t) : t.flags = o.2 := by
  cases h; rfl

theorem flags_of_divResult {e : Except Fault AluOut} (h : divResult s d e = .next t) :
    ∃ r, e = .ok r ∧ t.flags = r.2 := by
  obtain ⟨r, hr, ht⟩ := orRaise_eq_next h
  exact ⟨r, hr, flags_of_aluResult ht⟩

/-! ### The classes of 10 R39 -/

/-- MOD, REM and the logic instructions keep C and clear O. -/
theorem exec_keepsCarry (hi : keepsCarry i = true) (h : exec i s = .next t) :
    t.flags.o = false ∧ t.flags.c = s.flags.c := by
  cases i with
  | modi | mod0 | mod1 =>
    obtain ⟨r, hr, ht⟩ := flags_of_divResult h
    rw [ht]; exact aluMod_flags hr
  | remi | rem0 | rem1 =>
    obtain ⟨r, hr, ht⟩ := flags_of_divResult h
    rw [ht]; exact aluRem_flags hr
  | andi | and0 | and1 | ori | or0 | or1 | xori | xor0 | xor1
  | noti | not0 | not1 | negi | neg0 | neg1 =>
    rw [flags_of_aluResult h]; exact ⟨aluLogic_o _ _, aluLogic_c _ _⟩
  | tsti | tst => rw [flags_of_aluFlagsOnly h]; exact ⟨aluLogic_o _ _, aluLogic_c _ _⟩
  | _ => exact absurd hi Bool.false_ne_true

/-- MUL, DIV, MOD, REM, the logic instructions and the shifts clear O. -/
theorem exec_clearsOverflow (hi : clearsOverflow i = true) (h : exec i s = .next t) :
    t.flags.o = false := by
  by_cases hk : keepsCarry i = true
  · exact (exec_keepsCarry hk h).1
  cases i with
  | muli | mul0 | mul1 => rw [flags_of_aluResult h]; exact aluMul_o _ _ _
  | divi | div0 | div1 =>
    obtain ⟨r, hr, ht⟩ := flags_of_divResult h
    rw [ht]; exact aluDiv_o hr
  | shli | shl0 => rw [flags_of_aluResult h]; exact aluShl_o _ _ _
  | shri | shr0 => rw [flags_of_aluResult h]; exact aluShr_o _ _ _
  | sari | sar0 => rw [flags_of_aluResult h]; exact aluSar_o _ _ _
  | _ => exact absurd hi hk

end Sys2Proof.Machine

/-- Settles O49: without an allowed write the flags stay, and each ALU result says what it does to C
and O. -/
theorem flagWriters : Obligations.FlagWriters := by
  intro s t i h
  refine ⟨fun hall hcarry => ?_, fun hi => (exec_keepsCarry hi h).2,
    fun hi => exec_clearsOverflow hi h⟩
  exact exec_keeps (fun _ _ hw hk => (hw.flags_eq hall hcarry).trans hk) h rfl
end

section
/-! SUPPORT. Executing from a state with other flags, another sp, another rng or other calls before it:
what an instruction does not use, its outcome keeps. -/

open Sys2Proof Sys2Proof.Machine

namespace Sys2Proof.Machine

/-! ### Outcomes -/

@[simp] theorem mapNext_next (g : State → State) (t : State) :
    mapNext g (.next t) = .next (g t) := rfl

/-- An operation with the same value or fault, followed by what makes the change g. -/
theorem mapNext_orRaise {α : Type} {g : State → State} {e : Except Fault α}
    {k k' : α → StepOutcome} (hk : ∀ v, k' v = mapNext g (k v)) :
    orRaise e k' = mapNext g (orRaise e k) := by
  cases e with
  | ok v => exact hk v
  | error f => rfl

/-- An operation whose value is changed by γ, followed by what turns γ into the change g. -/
theorem orRaise_map {α : Type} {g : State → State} {γ : α → α} {e e' : Except Fault α}
    {k k' : α → StepOutcome} (he : e' = e.map γ) (hk : ∀ v, k' (γ v) = mapNext g (k v)) :
    orRaise e' k' = mapNext g (orRaise e k) := by
  subst he
  cases e with
  | ok v => exact hk v
  | error f => rfl

/-- An operation that raises when its check fails, with the change γ of its value. -/
theorem map_check {α : Type} {c : Prop} {_ : Decidable c} {f : Fault} {u v : α} {γ : α → α}
    (hu : u = γ v) :
    (if c then .error f else .ok u) = Except.map γ (if c then .error f else .ok v) := by
  subst hu; split <;> rfl

/-- A choice that the change g does not reach, between outcomes that both pass it on. -/
theorem mapNext_ite {c : Prop} {_ : Decidable c} {g : State → State} {a a' b b' : StepOutcome}
    (ha : a' = mapNext g a) (hb : b' = mapNext g b) :
    (if c then a' else b') = mapNext g (if c then a else b) := by
  rw [ha, hb, apply_ite (mapNext g)]

/-! ### Other flags, another sp, another rng, earlier calls -/

/-- The state with flags, sp and rng changed and the calls cs delivered before its own. -/
def State.changed (φ : Flags → Flags) (σ : Word → Word) (ρ : Config.RngState → Config.RngState)
    (cs : List Call) (s : State) : State :=
  { s with flags := φ s.flags, sp := σ s.sp, rng := ρ s.rng, calls := cs ++ s.calls }

variable (φ : Flags → Flags) (σ : Word → Word) (ρ : Config.RngState → Config.RngState)
  (cs : List Call) (s : State)

theorem setFlags_eq_changed (f : Flags) : (State.setFlags · f) = State.changed (fun _ => f) id id [] :=
  rfl

theorem setSp_eq_changed (v : Word) : (State.setSp · v) = State.changed id (fun _ => v) id [] := rfl

theorem setRng_eq_changed (g : Config.RngState) :
    (State.setRng · g) = State.changed id id (fun _ => g) [] := rfl

/-! The shared operations that give a state, on a changed state. Those of the stack read and write sp, so
there sp stays as it is. -/

theorem emitAll_changed (ds : List Call) :
    (s.changed φ σ ρ cs).emitAll ds = (s.emitAll ds).changed φ σ ρ cs := by
  simp [State.emitAll, State.changed]

theorem emitResult_changed (s : State) (c : Call) :
    emitResult (s.changed φ σ ρ cs) c = mapNext (State.changed φ σ ρ cs) (emitResult s c) :=
  congrArg finish (emitAll_changed φ σ ρ cs s [c])

theorem memWrite2_changed (a v : Word) :
    memWrite2 (s.changed φ σ ρ cs) a v = (memWrite2 s a v).map (State.changed φ σ ρ cs) := by
  unfold memWrite2; split <;> rfl

theorem loadPalette_changed (a : Word) :
    loadPalette (s.changed φ σ ρ cs) a = (loadPalette s a).map (State.changed φ σ ρ cs) := by
  unfold loadPalette
  split
  · exact congrArg Except.ok (emitAll_changed φ σ ρ cs s _)
  · rfl

theorem push_changed (v : Word) :
    push (s.changed φ id ρ cs) v = (push s v).map (State.changed φ id ρ cs) :=
  map_check rfl

theorem pop_changed :
    pop (s.changed φ id ρ cs) = (pop s).map (Prod.map id (State.changed φ id ρ cs)) :=
  map_check rfl

theorem pushAll_changed :
    pushAll (s.changed φ id ρ cs) = (pushAll s).map (State.changed φ id ρ cs) :=
  map_check rfl

theorem setRegs_setSp_changed (v : Vector Word 16) (w : Word) :
    ((s.changed φ id ρ cs).setRegs v).setSp w = ((s.setRegs v).setSp w).changed φ id ρ cs := rfl

theorem popAll_changed :
    popAll (s.changed φ id ρ cs) = (popAll s).map (State.changed φ id ρ cs) :=
  map_check (setRegs_setSp_changed φ ρ cs s _ _)

theorem callTo_changed (a : Word) :
    callTo (s.changed φ id ρ cs) a = mapNext (State.changed φ id ρ cs) (callTo s a) :=
  orRaise_map (push_changed φ ρ cs s _) fun _ => rfl

/-! ### Every instruction -/

variable {i : Instr}

/-- Whatever an instruction does not use may differ: its outcome is the same with the change in place.
The calls before it have no effect on any instruction. -/
theorem exec_changed
    (hφ : (readsFlags i || writesAllFlags i || keepsCarry i) = true → φ = id)
    (hσ : (pushes i || pops i) = true → σ = id) (hρ : usesRng i = true → ρ = id) :
    exec i (s.changed φ σ ρ cs) = mapNext (State.changed φ σ ρ cs) (exec i s) := by
  cases i with
  | nop | spr | flip0 | flip1 | flip2 | flip3 | jmp0 | jmp1 | ldi0 | ldi1 | mov => rfl
  | cls | drw0 | drw1 | snd0 | snd1 | snd2 | snd3 => exact emitResult_changed φ σ ρ cs s _
  | bgc n => exact emitResult_changed φ σ ρ cs (s.setBgc (n.setWidth 8)) _
  | sng a d v t sus rel => exact emitResult_changed φ σ ρ cs (s.setEnv a d sus rel) _
  | vblnk => exact congrArg (fun u => finish (u.setResult .yield)) (emitAll_changed φ σ ρ cs s _)
  | snp => exact mapNext_orRaise fun _ => emitResult_changed φ σ ρ cs s _
  | pal0 | pal1 => exact orRaise_map (loadPalette_changed φ σ ρ cs s _) fun _ => rfl
  | stm0 | stm1 => exact orRaise_map (memWrite2_changed φ σ ρ cs s _ _) fun _ => rfl
  | ldm0 | ldm1 => exact mapNext_orRaise fun _ => rfl
  | jme => exact mapNext_ite rfl rfl
  | rnd => obtain rfl := hρ rfl; rfl
  | push => obtain rfl := hσ rfl; exact orRaise_map (push_changed φ ρ cs s _) fun _ => rfl
  | pushall => obtain rfl := hσ rfl; exact orRaise_map (pushAll_changed φ ρ cs s) fun _ => rfl
  | popall => obtain rfl := hσ rfl; exact orRaise_map (popAll_changed φ ρ cs s) fun _ => rfl
  | pop | ret => obtain rfl := hσ rfl; exact orRaise_map (pop_changed φ ρ cs s) fun _ => rfl
  | call0 | call1 => obtain rfl := hσ rfl; exact callTo_changed φ ρ cs s _
  | pushf =>
    obtain rfl := hφ rfl
    obtain rfl := hσ rfl
    exact orRaise_map (push_changed id ρ cs s _) fun _ => rfl
  | popf =>
    obtain rfl := hφ rfl
    obtain rfl := hσ rfl
    exact orRaise_map (pop_changed id ρ cs s) fun _ => rfl
  | cx =>
    obtain rfl := hφ rfl
    obtain rfl := hσ rfl
    exact mapNext_ite (callTo_changed id ρ cs s _) rfl
  | jmc | jx => obtain rfl := hφ rfl; exact mapNext_ite rfl rfl
  | divi | div0 | div1 | modi | mod0 | mod1 | remi | rem0 | rem1 =>
    obtain rfl := hφ rfl
    exact mapNext_orRaise fun _ => rfl
  | addi | add0 | add1 | subi | sub0 | sub1 | cmpi | cmp | muli | mul0 | mul1
  | andi | and0 | and1 | tsti | tst | ori | or0 | or1 | xori | xor0 | xor1
  | noti | not0 | not1 | negi | neg0 | neg1 | shli | shri | sari | shl0 | shr0 | sar0 =>
    obtain rfl := hφ rfl
    rfl

/-! ### Up to the flags -/

/-- What writing all four flags hides. -/
theorem mapNext_setFlags_setFlags (f g : Flags) (o : StepOutcome) :
    mapNext (State.setFlags · g) (mapNext (State.setFlags · f) o) =
      mapNext (State.setFlags · g) o := by
  cases o <;> rfl

/-- Equal ALU results give equal states up to the flags. -/
theorem aluResult_upToFlags (f g : Flags) {d : Reg} {o o' : AluOut} (h : o'.1 = o.1) :
    mapNext (State.setFlags · g) (aluResult (s.setFlags f) d o') =
      mapNext (State.setFlags · g) (aluResult s d o) := by
  simp only [aluResult, h]; rfl

/-- The check of the divisor does not see the flags. -/
theorem divResult_upToFlags (f g : Flags) {d : Reg} {b : Word} {o o' : AluOut} (h : o'.1 = o.1) :
    mapNext (State.setFlags · g) (divResult (s.setFlags f) d (divChecked b o')) =
      mapNext (State.setFlags · g) (divResult s d (divChecked b o)) := by
  by_cases hb : b = 0
  · rw [hb]; rfl
  · rw [divChecked_ne o hb, divChecked_ne o' hb]
    exact aluResult_upToFlags s f g h

/-- POPF writes all four flags from the stack. -/
theorem execPopf_upToFlags (f g : Flags) :
    mapNext (State.setFlags · g) (execPopf (s.setFlags f)) =
      mapNext (State.setFlags · g) (execPopf s) := by
  have hpop : pop (s.setFlags f) = (pop s).map (Prod.map id (State.setFlags · f)) :=
    pop_changed (fun _ => f) id [] s
  unfold execPopf
  rw [hpop]
  cases pop s <;> rfl

/-- An instruction that reads no flag has the same outcome up to the flags from other flags. -/
theorem exec_upToFlags (f g : Flags) (hi : readsFlags i = false) :
    mapNext (State.setFlags · g) (exec i (s.setFlags f)) =
      mapNext (State.setFlags · g) (exec i s) := by
  by_cases hu : (readsFlags i || writesAllFlags i || keepsCarry i) = true
  · cases i with
    | popf => exact execPopf_upToFlags s f g
    | divi | div0 | div1 | modi | mod0 | mod1 | remi | rem0 | rem1 =>
      exact divResult_upToFlags s f g rfl
    | shli | shl0 => exact aluResult_upToFlags s f g (by simp only [aluShl_fst, State.setFlags_reg])
    | shri | shr0 => exact aluResult_upToFlags s f g (by simp only [aluShr_fst, State.setFlags_reg])
    | sari | sar0 => exact aluResult_upToFlags s f g (by simp only [aluSar_fst, State.setFlags_reg])
    | addi | add0 | add1 | subi | sub0 | sub1 | muli | mul0 | mul1
    | andi | and0 | and1 | ori | or0 | or1 | xori | xor0 | xor1
    | noti | not0 | not1 | negi | neg0 | neg1 => exact aluResult_upToFlags s f g rfl
    | cmpi | cmp | tsti | tst => rfl
    | jmc | jx | cx | pushf => nomatch hi
    | _ => nomatch hu
  · have hkeep : exec i (s.setFlags f) = mapNext (State.setFlags · f) (exec i s) := by
      rw [setFlags_eq_changed]
      exact exec_changed (fun _ => f) id id [] s (fun h => absurd h hu) (fun _ => rfl) (fun _ => rfl)
    rw [hkeep, mapNext_setFlags_setFlags]

/-! ### The host's step -/

/-- A step begins as it would with empty records, with the calls before it in place. -/
theorem beginStep_eq_changed : s.beginStep = s.toCoreState.begin.changed id id id s.calls := by
  simp [State.beginStep, State.setResult, CoreState.begin, State.changed]

/-- Whatever records a state carries, a step from it is the step of the core's state, with the calls
before it in place. -/
theorem step_eq_mapNext_begin :
    step s = mapNext (State.changed id id id s.calls) (step s.toCoreState.begin) := by
  have hfetch : fetch s.toCoreState.begin = fetch s := rfl
  cases hw : fetch s with
  | error f => simp [step, hfetch, hw, raise, mapNext]
  | ok w =>
    cases hd : decodeWord w with
    | error e => cases e; simp [step, hfetch, hw, hd, raise, mapNext]
    | ok i =>
      rw [step_of_decode hw hd, step_of_decode (hfetch.trans hw) hd, CoreState.begin_beginStep,
        beginStep_eq_changed]
      exact exec_changed id id id s.calls _ (fun _ => rfl) (fun _ => rfl) (fun _ => rfl)

theorem mapNext_eq_next {g : State → State} {o : StepOutcome} {t : State}
    (h : mapNext g o = .next t) : ∃ u, o = .next u ∧ t = g u := by
  cases o with
  | next u => exact ⟨u, rfl, (Host.Outcome.next.inj h).symm⟩
  | fault f => nomatch h
  | refused r => nomatch h

theorem mapNext_eq_fault {g : State → State} {o : StepOutcome} {f : Fault}
    (h : mapNext g o = .fault f) : o = .fault f := by
  cases o with
  | next u => nomatch h
  | fault f => exact congrArg _ (Host.Outcome.fault.inj h)
  | refused r => nomatch h

theorem deliveredBy_changed (t : State) : deliveredBy s (t.changed φ σ ρ s.calls) = t.calls :=
  List.drop_left

theorem hostStep_of_next {c : CoreState} {t : State} (h : step c.begin = .next t) :
    hostStep c = .ok (t.toCoreState, t.result.returned, t.calls) := by
  simp [hostStep, h]

theorem hostStep_of_fault {c : CoreState} {f : Fault} (h : step c.begin = .fault f) :
    hostStep c = .ok (c, .fault f, []) := by
  simp [hostStep, h]

end Sys2Proof.Machine

/-- Settles O50: an instruction that writes no flag keeps the other flags, and the result of one that
writes them does not depend on the flags before it. -/
theorem flagsReadOnlyByTheirReaders : Obligations.FlagsReadOnlyByTheirReaders :=
  fun s _ f g hi => exec_upToFlags s f g hi

/-- Settles O51: another rng is a change that only RND sees. -/
theorem onlyRndUsesRng : Obligations.OnlyRndUsesRng := by
  intro s i g hi
  rw [setRng_eq_changed]
  exact exec_changed id id (fun _ => g) [] s (fun _ => rfl) (fun _ => rfl) (by simp [hi])

/-- Settles O52: another sp is a change that only the stack instructions, the calls and RET see. -/
theorem onlyStackInstructionsUseSp : Obligations.OnlyStackInstructionsUseSp := by
  intro s i v hpush hpop
  rw [setSp_eq_changed]
  exact exec_changed id (fun _ => v) id [] s (fun _ => rfl) (by simp [hpush, hpop]) (fun _ => rfl)

/-- Settles O58: no instruction sees the calls before it, and a step sets the outcome itself. -/
theorem outcomeIsReturnedAndNotKept : Obligations.OutcomeIsReturnedAndNotKept := by
  intro s
  refine ⟨fun t h => ?_, fun f h => ?_⟩
  · rw [step_eq_mapNext_begin] at h
    obtain ⟨u, hu, rfl⟩ := mapNext_eq_next h
    rw [hostStep_of_next hu, deliveredBy_changed]
    rfl
  · rw [step_eq_mapNext_begin] at h
    exact hostStep_of_fault (mapNext_eq_fault h)
end

section
/-! SUPPORT. The FLAGS byte, bit by bit (10 R38). -/

open Sys2Proof Sys2Proof.Machine

namespace Sys2Proof.Machine

/-- The bits of FLAGS: C bit 1, Z bit 2, O bit 6, N bit 7, the others 0. -/
theorem flagsByte_getLsbD (f : Flags) (k : Nat) :
    (flagsByte f).getLsbD k =
      ((k == 1 && f.c) || (k == 2 && f.z) || (k == 6 && f.o) || (k == 7 && f.n)) := by
  simp only [flagsByte, BitVec.getLsbD_or, BitVec.getLsbD_shiftLeft, BitVec.getLsbD_setWidth,
    BitVec.getLsbD_ofBool]
  grind

/-- The bits of a byte that the mask 0xC6 keeps. -/
theorem getLsbD_and_flagsMask (b : Byte) (k : Nat) (hk : k < 8) :
    (b &&& 0xC6).getLsbD k = (b.getLsbD k && (k == 1 || k == 2 || k == 6 || k == 7)) := by
  have hmask : ∀ k < 8, (0xC6 : Byte).getLsbD k = (k == 1 || k == 2 || k == 6 || k == 7) := by
    decide
  rw [BitVec.getLsbD_and, hmask k hk]

/-- The FLAGS of the flags POPF takes from a word are the bits of its low byte they come from. -/
theorem flagsByte_flagsOfWord (v : Word) :
    flagsByte (flagsOfWord v) = v.setWidth 8 &&& 0xC6 := by
  refine BitVec.eq_of_getLsbD_eq fun k hk => ?_
  rw [flagsByte_getLsbD, getLsbD_and_flagsMask _ k hk]
  simp only [flagsOfWord, BitVec.getLsbD_setWidth]
  grind

/-- The flags taken from the word of a PUSHF are the flags pushed. -/
theorem flagsOfWord_flagsWord (f : Flags) : flagsOfWord (flagsWord f) = f := by
  simp only [flagsOfWord, flagsWord, BitVec.getLsbD_setWidth, flagsByte_getLsbD]
  simp

theorem flagsByte_toNat (f : Flags) :
    (flagsByte f).toNat = 128 * f.n.toNat + 64 * f.o.toNat + 4 * f.z.toNat + 2 * f.c.toNat := by
  obtain ⟨c, z, o, n⟩ := f
  revert c z o n
  decide

end Sys2Proof.Machine

/-- Settles O48: the four bits of FLAGS lie apart. -/
theorem flagsByteLayout : Obligations.FlagsByteLayout :=
  ⟨flagsByte_toNat, flagsByte_flagsOfWord, flagsOfWord_flagsWord⟩
end

section
/-! SUPPORT. The two bytes of a word in memory (20 R71, R72). -/

open Sys2Proof Sys2Proof.Machine

namespace Sys2Proof.Machine

/-- The word read at an address is the one its two bytes hold, high byte first (20 R71). -/
theorem holdsWord_readWord (m : Memory) (a : Nat) : HoldsWord m a (readWord m a) := by
  have hvalue := readWord_toNat m a
  have hlow := (readByte m (a + 1)).isLt
  constructor <;> omega

/-- A word written is the word its two bytes hold, since it reads back. -/
theorem holdsWord_writeWord (m : Memory) (a : Nat) (v : Word) :
    HoldsWord (writeWord m a v) a v := by
  simpa only [readWord_writeWord_same] using holdsWord_readWord (writeWord m a v) a

end Sys2Proof.Machine

/-- Settles O47: a word write changes its two bytes alone, and they read back as the word. -/
theorem mixedWidthAccesses : Obligations.MixedWidthAccesses := by
  intro m a v
  refine ⟨holdsWord_writeWord m a v, readWord_writeWord_same m a v, fun b hhigh hlow => ?_,
    readQuad_toNat m a⟩
  exact readByte_writeWord_other m a b v (by omega)
end

section
/-! SUPPORT. Decoding against encoding (30 R103 to R119): a word decodes to i exactly when the word of i
is the word with the ignored bits of i's format cleared. -/

open Sys2Proof Sys2Proof.Machine Sys2Proof.Laws

namespace Sys2Proof

/-! ### Masks -/

/-- A field that lies apart from a mask is read the same after the mask is cleared. -/
theorem extract_and_not {w m : InstrWord} {lo n : Nat} (hm : m.extractLsb' lo n = 0) :
    (w &&& ~~~ m).extractLsb' lo n = w.extractLsb' lo n := by
  ext i hi
  have hbit : m.getLsbD (lo + i) = false := by
    simpa [hi] using congrArg (fun v => v.getLsbD i) hm
  simpa [hbit] using BitVec.lt_of_getLsbD

theorem extract_of_eq_masked {v w m : InstrWord} (h : v = w &&& ~~~ m) {lo n : Nat}
    (hm : m.extractLsb' lo n = 0) : w.extractLsb' lo n = v.extractLsb' lo n := by
  rw [h, extract_and_not hm]

theorem and_not_eq_self_iff (w m : InstrWord) : w &&& ~~~ m = w ↔ w &&& m = 0 := by
  simp only [BitVec.ofNat_eq_ofNat, BitVec.eq_of_getLsbD_eq_iff, BitVec.getLsbD_and,
    BitVec.getLsbD_not, BitVec.getLsbD_zero]
  grind

/-- The word whose k bits from bit lo upward are 1, every other bit 0: the place of a field. -/
def fieldMask (k lo : Nat) : InstrWord := fieldAt (BitVec.allOnes k) lo

/-- What a word holds at the place of a field is the field, read and placed again. -/
theorem and_fieldMask (w : InstrWord) (k lo : Nat) :
    w &&& fieldMask k lo = fieldAt (w.extractLsb' lo k) lo := by
  ext i hi
  by_cases hlo : i < lo
  · simp [fieldMask, fieldAt, hlo]
  · simp [fieldMask, fieldAt, hlo, show lo + (i - lo) = i by omega, hi, Bool.and_comm]

/-! ### Conditions and FLIP -/

@[simp] theorem code_ofCode (c : Nibble) : (Cond.ofCode c).code = c := by
  revert c; decide

@[simp] theorem encode_decodeFlip (n : BitVec 2) : encode (decodeFlip n) = encF 0x08 n := by
  revert n; decide

@[simp] theorem format_decodeFlip (n : BitVec 2) : (decodeFlip n).format = .f := by
  revert n; decide

/-! ### The formats

Per format: an encoded word is w with its ignored bits cleared exactly when w holds the opcode and the
fields that were encoded. One way, the fields read from the encoded word are those of w, because no
ignored bit lies in a field; the other way, the places of the opcode and of the fields are the bits that
are not ignored. -/

/-- Format N (30 R103). -/
theorem encN_eq_masked_iff {w : InstrWord} {op : Byte} :
    encN op = w &&& ~~~ Format.ignored .n ↔ opcodeField w = op := by
  constructor
  · intro h
    simp (disch := decide) only [opcodeField, extract_of_eq_masked h]
    simp [encN, extract_fieldAt_same]
  · rintro rfl
    have hmask : ~~~ Format.ignored .n = fieldMask 8 24 := by decide
    simp only [encN, hmask, and_fieldMask]
    rfl

/-- Format A (30 R104). -/
theorem encA_eq_masked_iff {w : InstrWord} {op : Byte} {imm : Word} :
    encA op imm = w &&& ~~~ Format.ignored .a ↔
      opcodeField w = op ∧ immField w = imm := by
  constructor
  · intro h
    simp (disch := decide) only [opcodeField, immField, extract_of_eq_masked h]
    simp [encA, extract_or, extract_fieldAt_same, extract_fieldAt_above, extract_fieldAt_below]
  · rintro ⟨rfl, rfl⟩
    have hmask : ~~~ Format.ignored .a = fieldMask 8 24 ||| fieldMask 16 0 := by decide
    simp only [encA, hmask, BitVec.and_or_distrib_left, and_fieldMask]
    rfl

/-- Format RI (30 R105). -/
theorem encRI_eq_masked_iff {w : InstrWord} {op : Byte} {x : Reg} {imm : Word} :
    encRI op x imm = w &&& ~~~ Format.ignored .ri ↔
      opcodeField w = op ∧ regField w 16 = x ∧ immField w = imm := by
  constructor
  · intro h
    simp (disch := decide) only [opcodeField, regField, nibField, immField, extract_of_eq_masked h]
    simp [encRI, extract_or, extract_fieldAt_same, extract_fieldAt_above, extract_fieldAt_below]
  · rintro ⟨rfl, rfl, rfl⟩
    have hmask : ~~~ Format.ignored .ri =
        fieldMask 8 24 ||| fieldMask 4 16 ||| fieldMask 16 0 := by decide
    simp only [encRI, hmask, BitVec.and_or_distrib_left, and_fieldMask]
    rfl

/-- Format CI (30 R106). -/
theorem encCI_eq_masked_iff {w : InstrWord} {op : Byte} {c : Cond} {addr : Word} :
    encCI op c addr = w &&& ~~~ Format.ignored .ci ↔
      opcodeField w = op ∧ Cond.ofCode (nibField w 16) = c ∧ immField w = addr := by
  constructor
  · intro h
    simp (disch := decide) only [opcodeField, nibField, immField, extract_of_eq_masked h]
    simp [encCI, extract_or, extract_fieldAt_same, extract_fieldAt_above, extract_fieldAt_below,
      ofCode_code]
  · rintro ⟨rfl, rfl, rfl⟩
    have hmask : ~~~ Format.ignored .ci =
        fieldMask 8 24 ||| fieldMask 4 16 ||| fieldMask 16 0 := by decide
    simp only [encCI, code_ofCode, hmask, BitVec.and_or_distrib_left, and_fieldMask]
    rfl

/-- Format RN (30 R107). -/
theorem encRN_eq_masked_iff {w : InstrWord} {op : Byte} {x : Reg} {n : Nibble} :
    encRN op x n = w &&& ~~~ Format.ignored .rn ↔
      opcodeField w = op ∧ regField w 16 = x ∧ nibField w 0 = n := by
  constructor
  · intro h
    simp (disch := decide) only [opcodeField, regField, nibField, extract_of_eq_masked h]
    simp [encRN, extract_or, extract_fieldAt_same, extract_fieldAt_above, extract_fieldAt_below]
  · rintro ⟨rfl, rfl, rfl⟩
    have hmask : ~~~ Format.ignored .rn =
        fieldMask 8 24 ||| fieldMask 4 16 ||| fieldMask 4 0 := by decide
    simp only [encRN, hmask, BitVec.and_or_distrib_left, and_fieldMask]
    rfl

/-- Format K (30 R108). -/
theorem encK_eq_masked_iff {w : InstrWord} {op : Byte} {n : Nibble} :
    encK op n = w &&& ~~~ Format.ignored .k ↔
      opcodeField w = op ∧ nibField w 0 = n := by
  constructor
  · intro h
    simp (disch := decide) only [opcodeField, nibField, extract_of_eq_masked h]
    simp [encK, extract_or, extract_fieldAt_same, extract_fieldAt_above, extract_fieldAt_below]
  · rintro ⟨rfl, rfl⟩
    have hmask : ~~~ Format.ignored .k = fieldMask 8 24 ||| fieldMask 4 0 := by decide
    simp only [encK, hmask, BitVec.and_or_distrib_left, and_fieldMask]
    rfl

/-- Format R (30 R109). -/
theorem encR_eq_masked_iff {w : InstrWord} {op : Byte} {x : Reg} :
    encR op x = w &&& ~~~ Format.ignored .r ↔
      opcodeField w = op ∧ regField w 0 = x := by
  constructor
  · intro h
    simp (disch := decide) only [opcodeField, regField, nibField, extract_of_eq_masked h]
    simp [encR, extract_or, extract_fieldAt_same, extract_fieldAt_above, extract_fieldAt_below]
  · rintro ⟨rfl, rfl⟩
    have hmask : ~~~ Format.ignored .r = fieldMask 8 24 ||| fieldMask 4 0 := by decide
    simp only [encR, hmask, BitVec.and_or_distrib_left, and_fieldMask]
    rfl

/-- Format RR (30 R110). -/
theorem encRR_eq_masked_iff {w : InstrWord} {op : Byte} {x y : Reg} :
    encRR op x y = w &&& ~~~ Format.ignored .rr ↔
      opcodeField w = op ∧ regField w 12 = y ∧ regField w 0 = x := by
  constructor
  · intro h
    simp (disch := decide) only [opcodeField, regField, nibField, extract_of_eq_masked h]
    simp [encRR, extract_or, extract_fieldAt_same, extract_fieldAt_above, extract_fieldAt_below]
  · rintro ⟨rfl, rfl, rfl⟩
    have hmask : ~~~ Format.ignored .rr =
        fieldMask 8 24 ||| fieldMask 4 12 ||| fieldMask 4 0 := by decide
    simp only [encRR, hmask, BitVec.and_or_distrib_left, and_fieldMask]
    rfl

/-- Format RRR (30 R111). -/
theorem encRRR_eq_masked_iff {w : InstrWord} {op : Byte} {x y z : Reg} :
    encRRR op x y z = w &&& ~~~ Format.ignored .rrr ↔
      opcodeField w = op ∧ regField w 16 = z ∧ regField w 12 = y ∧ regField w 0 = x := by
  constructor
  · intro h
    simp (disch := decide) only [opcodeField, regField, nibField, extract_of_eq_masked h]
    simp [encRRR, extract_or, extract_fieldAt_same, extract_fieldAt_above, extract_fieldAt_below]
  · rintro ⟨rfl, rfl, rfl, rfl⟩
    have hmask : ~~~ Format.ignored .rrr =
        fieldMask 8 24 ||| fieldMask 4 16 ||| fieldMask 4 12 ||| fieldMask 4 0 := by decide
    simp only [encRRR, hmask, BitVec.and_or_distrib_left, and_fieldMask]
    rfl

/-- Format RRA (30 R112). -/
theorem encRRA_eq_masked_iff {w : InstrWord} {op : Byte} {x y : Reg} {imm : Word} :
    encRRA op x y imm = w &&& ~~~ Format.ignored .rra ↔
      opcodeField w = op ∧ regField w 20 = y ∧ regField w 16 = x ∧ immField w = imm := by
  constructor
  · intro h
    simp (disch := decide) only [opcodeField, regField, nibField, immField, extract_of_eq_masked h]
    simp [encRRA, extract_or, extract_fieldAt_same, extract_fieldAt_above, extract_fieldAt_below]
  · rintro ⟨rfl, rfl, rfl, rfl⟩
    have hmask : ~~~ Format.ignored .rra =
        fieldMask 8 24 ||| fieldMask 4 20 ||| fieldMask 4 16 ||| fieldMask 16 0 := by decide
    simp only [encRRA, hmask, BitVec.and_or_distrib_left, and_fieldMask]
    rfl

/-- Format S (30 R113). -/
theorem encS_eq_masked_iff {w : InstrWord} {op : Byte} {a d v t sus rel : Nibble} :
    encS op a d v t sus rel = w &&& ~~~ Format.ignored .s ↔
      opcodeField w = op ∧ nibField w 20 = a ∧ nibField w 16 = d ∧ nibField w 12 = v ∧
        nibField w 8 = t ∧ nibField w 4 = sus ∧ nibField w 0 = rel := by
  constructor
  · intro h
    simp (disch := decide) only [opcodeField, nibField, extract_of_eq_masked h]
    simp [encS, extract_or, extract_fieldAt_same, extract_fieldAt_above, extract_fieldAt_below]
  · rintro ⟨rfl, rfl, rfl, rfl, rfl, rfl, rfl⟩
    have hmask : ~~~ Format.ignored .s =
        fieldMask 8 24 ||| fieldMask 4 20 ||| fieldMask 4 16 ||| fieldMask 4 12 ||| fieldMask 4 8 |||
          fieldMask 4 4 ||| fieldMask 4 0 := by decide
    simp only [encS, hmask, BitVec.and_or_distrib_left, and_fieldMask]
    rfl

/-- Format F (30 R114). -/
theorem encF_eq_masked_iff {w : InstrWord} {op : Byte} {n : BitVec 2} :
    encF op n = w &&& ~~~ Format.ignored .f ↔
      opcodeField w = op ∧ w.extractLsb' 0 2 = n := by
  constructor
  · intro h
    simp (disch := decide) only [opcodeField, extract_of_eq_masked h]
    simp [encF, extract_or, extract_fieldAt_same, extract_fieldAt_above, extract_fieldAt_below]
  · rintro ⟨rfl, rfl⟩
    have hmask : ~~~ Format.ignored .f = fieldMask 8 24 ||| fieldMask 2 0 := by decide
    simp only [encF, hmask, BitVec.and_or_distrib_left, and_fieldMask]
    rfl

/-! ### Every instruction -/

/-- Whether an opcode byte is assigned does not depend on the word's other bits (30 R118). -/
theorem isNone_operationOf (op : Byte) (w : InstrWord) :
    (operationOf op w).isNone = (operationOf op 0).isNone := by
  unfold operationOf
  split <;> rfl

theorem operationOf_eq_none_iff (op : Byte) (w : InstrWord) :
    operationOf op w = none ↔ Unassigned op.toNat := by
  have hzero : ∀ op : Byte, (operationOf op 0).isNone = true ↔ Unassigned op.toNat := by
    unfold Unassigned
    decide
  rw [← Option.isNone_iff_eq_none, isNone_operationOf, hzero]

theorem decodeWord_eq_ok {w : InstrWord} {i : Instr} :
    decodeWord w = .ok i ↔ operationOf (opcodeField w) w = some i := by
  unfold decodeWord
  cases operationOf (opcodeField w) w <;> simp

/-- Each arm of the opcode map takes its operation's fields from where the format places them. -/
theorem encode_of_operationOf {w : InstrWord} {i : Instr} {op : Byte} (hop : opcodeField w = op)
    (h : operationOf op w = some i) : encode i = w &&& ~~~ i.format.ignored := by
  unfold operationOf at h
  split at h
  case h_83 => cases h -- an unassigned byte
  case h_9 hflip => -- 0x08, which w[1:0] tells apart
    obtain rfl := Option.some.inj h
    simp only [encode_decodeFlip, format_decodeFlip, encF_eq_masked_iff, hop, and_true]
    exact BitVec.eq_of_toNat_eq hflip
  all_goals next hnat =>
    obtain rfl := Option.some.inj h
    simp only [encode, Instr.format, hop, and_true, encN_eq_masked_iff, encA_eq_masked_iff,
      encRI_eq_masked_iff, encCI_eq_masked_iff, encRN_eq_masked_iff, encK_eq_masked_iff,
      encR_eq_masked_iff, encRR_eq_masked_iff, encRRR_eq_masked_iff, encRRA_eq_masked_iff,
      encS_eq_masked_iff]
    exact BitVec.eq_of_toNat_eq hnat

/-- The fields of i read from w give i back, format by format. -/
theorem operationOf_of_encode {w : InstrWord} {i : Instr}
    (h : encode i = w &&& ~~~ i.format.ignored) : operationOf (opcodeField w) w = some i := by
  cases i
  case nop | cls | vblnk | snd0 | ret | pushall | popall | pushf | popf =>
    rw [encN_eq_masked_iff.mp h]; rfl
  case spr | snd1 | snd2 | snd3 | jmp0 | jmc | call0 | pal0 =>
    obtain ⟨hop, rfl⟩ := encA_eq_masked_iff.mp h
    rw [hop]; rfl
  case rnd | snp | ldi0 | ldi1 | ldm0 | stm0 | addi | subi | cmpi | andi | tsti | ori | xori | muli
      | divi | modi | remi | noti | negi =>
    obtain ⟨hop, rfl, rfl⟩ := encRI_eq_masked_iff.mp h
    rw [hop]; rfl
  case jx | cx =>
    obtain ⟨hop, rfl, rfl⟩ := encCI_eq_masked_iff.mp h
    rw [hop]; rfl
  case shli | shri | sari =>
    obtain ⟨hop, rfl, rfl⟩ := encRN_eq_masked_iff.mp h
    rw [hop]; rfl
  case bgc =>
    obtain ⟨hop, rfl⟩ := encK_eq_masked_iff.mp h
    rw [hop]; rfl
  case jmp1 | call1 | push | pop | pal1 | not0 | neg0 =>
    obtain ⟨hop, rfl⟩ := encR_eq_masked_iff.mp h
    rw [hop]; rfl
  case ldm1 | mov | stm1 | add0 | sub0 | cmp | and0 | tst | or0 | xor0 | mul0 | div0 | mod0 | rem0 |
      shl0 | shr0 | sar0 | not1 | neg1 =>
    obtain ⟨hop, rfl, rfl⟩ := encRR_eq_masked_iff.mp h
    rw [hop]; rfl
  case drw1 | add1 | sub1 | and1 | or1 | xor1 | mul1 | div1 | mod1 | rem1 =>
    obtain ⟨hop, rfl, rfl, rfl⟩ := encRRR_eq_masked_iff.mp h
    rw [hop]; rfl
  case drw0 | jme =>
    obtain ⟨hop, rfl, rfl, rfl⟩ := encRRA_eq_masked_iff.mp h
    rw [hop]; rfl
  case sng =>
    obtain ⟨hop, rfl, rfl, rfl, rfl, rfl, rfl⟩ := encS_eq_masked_iff.mp h
    rw [hop]; rfl
  case flip0 | flip1 | flip2 | flip3 =>
    obtain ⟨hop, hn⟩ := encF_eq_masked_iff.mp h
    rw [hop]
    exact congrArg (some ∘ decodeFlip) hn

/-- A word decodes to i exactly when the word of i is it with its ignored bits cleared. -/
theorem decodeWord_eq_ok_iff {w : InstrWord} {i : Instr} :
    decodeWord w = .ok i ↔ encode i = w &&& ~~~ i.format.ignored :=
  decodeWord_eq_ok.trans ⟨encode_of_operationOf rfl, operationOf_of_encode⟩

/-- An encoder writes every ignored bit 0 (30 R115). -/
theorem encode_and_ignored (i : Instr) : encode i &&& i.format.ignored = 0 := by
  cases i <;>
    simp only [encode, Instr.format, ignoredN, ignoredA, ignoredRI, ignoredCI, ignoredRN, ignoredK,
      ignoredR, ignoredRR, ignoredRRR, ignoredRRA, ignoredS, ignoredF]

/-- The word of i has no ignored bit to clear, so it decodes to i (30 R119). -/
theorem decodeWord_encode (i : Instr) : decodeWord (encode i) = .ok i :=
  decodeWord_eq_ok_iff.mpr ((and_not_eq_self_iff _ _).mpr (encode_and_ignored i)).symm

/-! ### The opcode byte -/

theorem bitsAt_opcode (w : InstrWord) : bitsAt w 31 24 = (opcodeField w).toNat := by
  simp [bitsAt, opcodeField, BitVec.extractLsb'_toNat, Nat.shiftRight_eq_div_pow]

theorem decodeWord_of_unassigned {w : InstrWord} (h : Unassigned (bitsAt w 31 24)) :
    decodeWord w = .error (.unknownOpcode (opcodeField w)) := by
  rw [bitsAt_opcode, ← operationOf_eq_none_iff _ w] at h
  simp [decodeWord, h]

theorem exists_decodeWord_of_assigned {w : InstrWord} (h : ¬ Unassigned (bitsAt w 31 24)) :
    ∃ i, decodeWord w = .ok i := by
  rw [bitsAt_opcode, ← operationOf_eq_none_iff _ w] at h
  obtain ⟨i, hi⟩ := Option.ne_none_iff_exists'.mp h
  exact ⟨i, decodeWord_eq_ok.mpr hi⟩

end Sys2Proof

/-- Settles O1: a word decodes to i exactly when the word of i is it with its ignored bits cleared. -/
theorem decodeInvertsEncode : Obligations.DecodeInvertsEncode := by
  refine ⟨decodeWord_encode, fun _ _ => decodeWord_eq_ok_iff.mp, encode_and_ignored, fun w hw => ?_⟩
  rw [decodeWord_of_unassigned hw, bitsAt_opcode, BitVec.ofNat_toNat, BitVec.setWidth_eq]

/-- Settles O2: what a word decodes to is fixed by the word with its ignored bits cleared. -/
theorem ignoredBitsDoNotAffectDecoding : Obligations.IgnoredBitsDoNotAffectDecoding := by
  refine ⟨fun w v i hw hwv => ?_, encode_and_ignored, decodeWord_encode, fun w i hw => ?_,
    fun _ => exists_decodeWord_of_assigned⟩
  · exact decodeWord_eq_ok_iff.mpr ((decodeWord_eq_ok_iff.mp hw).trans hwv)
  · rw [decodeWord_eq_ok_iff.mp hw, and_not_eq_self_iff]

/-- Settles O3: twelve fixed words, decoded by evaluation. -/
theorem sampleWordsDecode : Obligations.SampleWordsDecode := by
  unfold Obligations.SampleWordsDecode
  decide
end

section
/-! SUPPORT. The statements' formats in arithmetic against the fields the opcode map reads (30 R103 to
R116). -/

open Sys2Proof Sys2Proof.Machine

namespace Sys2Proof

theorem bitsAt_eq_extract (w : InstrWord) (hi lo : Nat) :
    bitsAt w hi lo = (w.extractLsb' lo (hi + 1 - lo)).toNat := by
  rw [bitsAt, BitVec.extractLsb'_toNat, Nat.shiftRight_eq_div_pow]

theorem regAt_eq_regField (w : InstrWord) (lo : Nat) : regAt w (lo + 3) lo = regField w lo := by
  have hwidth : lo + 3 + 1 - lo = 4 := by omega
  rw [regAt, bitsAt_eq_extract, hwidth]
  exact Fin.ofNat_val_eq_self (regField w lo)

theorem immAt_eq_immField (w : InstrWord) : immAt w = immField w := by
  rw [immAt, bitsAt_eq_extract]
  exact (BitVec.ofNat_toNat 16 (immField w)).trans (BitVec.setWidth_eq _)

/-- An arm of the opcode map says what every word with its opcode decodes to. -/
theorem decodes_of_operationOf {op : Byte} {f : InstrWord → Instr}
    (harm : ∀ w, operationOf op w = some (f w)) : Decodes op.toNat f := by
  intro w hw
  rw [bitsAt_opcode] at hw
  rw [decodeWord_eq_ok, BitVec.eq_of_toNat_eq hw, harm]

/-- An arm of format RI (30 R105). -/
theorem decodesRI_of_operationOf {op : Byte} {f : Reg → Word → Instr}
    (harm : ∀ w, operationOf op w = some (f (regField w 16) (immField w))) :
    DecodesRI op.toNat f :=
  decodes_of_operationOf fun w => by
    rw [harm, regAt_eq_regField w 16, immAt_eq_immField]

/-- An arm of format RR (30 R110). -/
theorem decodesRR_of_operationOf {op : Byte} {f : Reg → Reg → Instr}
    (harm : ∀ w, operationOf op w = some (f (regField w 0) (regField w 12))) :
    DecodesRR op.toNat f :=
  decodes_of_operationOf fun w => by
    rw [harm, regAt_eq_regField w 0, regAt_eq_regField w 12]

end Sys2Proof
end

section
/-! SUPPORT. What the operand forms of data movement write, what they keep and where they fault
(40 R140 to R146). -/

open Sys2Proof Sys2Proof.Machine

namespace Sys2Proof.Machine

/-! ### A register and the flags -/

theorem keepsRegs_setReg (s : State) (d : Reg) (v : Word) : KeepsRegs [d] s (s.setReg d v) :=
  fun _ hx => s.reg_setReg_other d _ v (List.ne_of_not_mem_cons hx)

/-- The state after a register and the flags are written and the pc moves on (00 R12). -/
theorem writesRegFlags_advance (s : State) (d : Reg) (v : Word) (f : Flags) :
    WritesRegFlags d v f s ((s.setReg d v).setFlags f).advance :=
  ⟨s.reg_setReg_same d v, rfl, rfl, keepsRegs_setReg s d v, rfl, fun _ => rfl,
    by simp [KeepsRest, KeepsSprite, KeepsEnv, KeepsOutput]⟩

/-- A register result writes the flags with what they were. -/
theorem regResult_writes (s : State) (d : Reg) (v : Word) :
    ∃ t, regResult s d v = .next t ∧ WritesRegFlags d v s.flags s t :=
  ⟨_, regResult_eq s d v, writesRegFlags_advance s d v s.flags⟩

/-! ### Word accesses -/

/-- A word at a stays inside memory unless a is the last address (20 R73). -/
theorem word_inside_of_ne {a : Word} (h : a ≠ 0xFFFF) : a.toNat + 2 ≤ 65536 := by
  bv_omega

theorem memRead2_of_ne (s : State) {a : Word} (h : a ≠ 0xFFFF) :
    memRead2 s a = .ok (readWord s.mem a.toNat) :=
  memRead2_ok s a (word_inside_of_ne h)

theorem memRead2_of_eq (s : State) {a : Word} (h : a = 0xFFFF) :
    memRead2 s a = .error (.outOfBounds a 2) :=
  memRead2_error s a (by subst h; decide)

theorem memWrite2_of_ne (s : State) {a : Word} (v : Word) (h : a ≠ 0xFFFF) :
    memWrite2 s a v = .ok (s.setMem (writeWord s.mem a.toNat v)) :=
  memWrite2_ok s a v (word_inside_of_ne h)

theorem memWrite2_of_eq (s : State) {a : Word} (v : Word) (h : a = 0xFFFF) :
    memWrite2 s a v = .error (.outOfBounds a 2) :=
  memWrite2_error s a v (by subst h; decide)

theorem keepsMemOutside_writeWord (s : State) (p : Nat) (v : Word) :
    KeepsMemOutside p 2 s (s.setMem (writeWord s.mem p v)) :=
  fun b hb => readByte_writeWord_other s.mem p b v hb

/-! ### Loads and stores -/

theorem loadResult_loads (s : State) (d : Reg) {a : Word} (h : a ≠ 0xFFFF) :
    ∃ t v, loadResult s d a = .next t ∧ HoldsWord s.mem a.toNat v ∧
      WritesRegFlags d v s.flags s t := by
  obtain ⟨t, hnext, hwrites⟩ := regResult_writes s d (readWord s.mem a.toNat)
  refine ⟨t, _, ?_, holdsWord_readWord s.mem a.toNat, hwrites⟩
  rw [loadResult, memRead2_of_ne s h, orRaise_ok, hnext]

theorem loadResult_faults (s : State) (d : Reg) {a : Word} (h : a = 0xFFFF) :
    loadResult s d a = .fault (.outOfBounds a 2) := by
  rw [loadResult, memRead2_of_eq s h, orRaise_error]

theorem storeResult_stores (s : State) {a : Word} (v : Word) (h : a ≠ 0xFFFF) :
    ∃ t, storeResult s a v = .next t ∧ HoldsWord t.mem a.toNat v ∧
      KeepsMemOutside a.toNat 2 s t ∧ KeepsRegs [] s t ∧ t.sp = s.sp ∧ t.flags = s.flags ∧
      t.pc = s.pc + 4 ∧ KeepsRest s t := by
  refine ⟨(s.setMem (writeWord s.mem a.toNat v)).advance, ?_, holdsWord_writeWord s.mem a.toNat v,
    keepsMemOutside_writeWord s a.toNat v, fun _ _ => rfl, rfl, rfl, rfl, ?_⟩
  · rw [storeResult, memWrite2_of_ne s v h, orRaise_ok, finish_eq]
  · simp [KeepsRest, KeepsSprite, KeepsEnv, KeepsOutput]

theorem storeResult_faults (s : State) {a : Word} (v : Word) (h : a = 0xFFFF) :
    storeResult s a v = .fault (.outOfBounds a 2) := by
  rw [storeResult, memWrite2_of_eq s v h, orRaise_error]

end Sys2Proof.Machine

/-- Settles O4: each of the three is a register result. -/
theorem registerMovesWriteOneRegister : Obligations.RegisterMovesWriteOneRegister :=
  ⟨decodesRI_of_operationOf (op := 0x20) fun _ => rfl,
    decodesRI_of_operationOf (op := 0x21) fun _ => rfl,
    decodesRR_of_operationOf (op := 0x24) fun _ => rfl,
    fun s x y imm =>
      ⟨regResult_writes s x imm, regResult_writes s x imm, regResult_writes s x (s.reg y)⟩⟩

/-- Settles O5: both loads end in one form, from the immediate or from the address register. -/
theorem loadsReadTheBigEndianWord : Obligations.LoadsReadTheBigEndianWord :=
  ⟨decodesRI_of_operationOf (op := 0x22) fun _ => rfl,
    decodesRR_of_operationOf (op := 0x23) fun _ => rfl,
    fun s x _ _ =>
      ⟨loadResult_loads s x, loadResult_faults s x, loadResult_loads s x, loadResult_faults s x⟩⟩

/-- Settles O6: both stores end in one form, at the immediate or at the address register. -/
theorem storesWriteTheBigEndianWord : Obligations.StoresWriteTheBigEndianWord :=
  ⟨decodesRI_of_operationOf (op := 0x30) fun _ => rfl,
    decodesRR_of_operationOf (op := 0x31) fun _ => rfl,
    fun s x _ _ =>
      ⟨storeResult_stores s (s.reg x), storeResult_faults s (s.reg x),
        storeResult_stores s (s.reg x), storeResult_faults s (s.reg x)⟩⟩
end

section
/-! SUPPORT. Addition, subtraction, compare, multiplication and division against their rules in
arithmetic (41 R160 to R185). -/

open Sys2Proof Sys2Proof.Machine

namespace Sys2Proof

/-- An arm of format RRR (30 R111). -/
theorem decodesRRR_of_operationOf {op : Byte} {f : Reg → Reg → Reg → Instr}
    (harm : ∀ w, operationOf op w = some (f (regField w 0) (regField w 12) (regField w 16))) :
    DecodesRRR op.toNat f :=
  decodes_of_operationOf fun w => by
    rw [harm, regAt_eq_regField w 0, regAt_eq_regField w 12, regAt_eq_regField w 16]

end Sys2Proof

namespace Sys2Proof.Machine

/-! ### Bits, Zero and Negative -/

theorem bitAt_eq_toNat (v : Word) (k : Nat) : bitAt v k = (v.getLsbD k).toNat := by
  rw [bitAt, BitVec.getLsbD, Nat.toNat_testBit]

theorem bitAt_eq_iff (v w : Word) (k : Nat) :
    bitAt v k = bitAt w k ↔ v.getLsbD k = w.getLsbD k := by
  have hinj : ∀ b c : Bool, b.toNat = c.toNat ↔ b = c := by decide
  rw [bitAt_eq_toNat, bitAt_eq_toNat, hinj]

/-- Bit 15 of a word tells its sign. -/
theorem toInt_eq_bitAt (v : Word) : v.toInt = v.toNat - 65536 * bitAt v 15 := by
  have hv := v.isLt
  rw [BitVec.toInt_eq_toNat_cond, bitAt]
  split <;> omega

/-- `setZN(r)` (41 R160). -/
theorem znSpec_setZN (f : Flags) (r : Word) : ZNSpec r (setZN f r) := by
  constructor
  · simp [setZN, BitVec.toNat_eq]
  · simp [setZN, bitAt_eq_toNat]

/-! ### The results of the ALU -/

/-- `Add(a, b)` (41 R161). -/
theorem aluAdd_spec (f : Flags) (a b : Word) : AddSpec a b (aluAdd f a b).1 (aluAdd f a b).2 :=
  ⟨BitVec.toNat_ofNat _ _, decide_eq_true_iff,
    by simp [aluAdd, setZN, bitAt_eq_iff], znSpec_setZN _ _⟩

/-- `Sub(a, b)` (41 R162). -/
theorem aluSub_spec (f : Flags) (a b : Word) : SubSpec a b (aluSub f a b).1 (aluSub f a b).2 := by
  refine ⟨?_, decide_eq_true_iff, by simp [aluSub, setZN, bitAt_eq_iff], znSpec_setZN _ _⟩
  have hb := b.isLt
  simp only [aluSub, BitVec.toNat_sub]
  omega

/-- `Mul(a, b)` (41 R171). -/
theorem aluMul_spec (f : Flags) (a b : Word) : MulSpec a b (aluMul f a b).1 (aluMul f a b).2 :=
  ⟨BitVec.toNat_ofNat _ _, decide_eq_true_iff, rfl, znSpec_setZN _ _⟩

/-! ### Carry and Overflow against the exact outcome (41 R185) -/

theorem AddSpec.reports {a b r : Word} {f : Flags} (h : AddSpec a b r f) :
    (f.o = true ↔ r.toInt ≠ a.toInt + b.toInt) ∧ (f.c = true ↔ r.toNat ≠ a.toNat + b.toNat) := by
  obtain ⟨hr, hc, ho, -⟩ := h
  have ha := a.isLt
  have hb := b.isLt
  rw [ho, hc, toInt_eq_bitAt a, toInt_eq_bitAt b, toInt_eq_bitAt r]
  unfold bitAt
  omega

theorem SubSpec.reports {a b r : Word} {f : Flags} (h : SubSpec a b r f) :
    (f.o = true ↔ r.toInt ≠ a.toInt - b.toInt) ∧ (f.c = true ↔ r.toNat + b.toNat ≠ a.toNat) := by
  obtain ⟨hr, hc, ho, -⟩ := h
  have ha := a.isLt
  have hb := b.isLt
  rw [ho, hc, toInt_eq_bitAt a, toInt_eq_bitAt b, toInt_eq_bitAt r]
  unfold bitAt
  omega

theorem MulSpec.reports {a b r : Word} {f : Flags} (h : MulSpec a b r f) :
    f.o = false ∧ (f.c = true ↔ r.toNat ≠ a.toNat * b.toNat) := by
  obtain ⟨hr, hc, ho, -⟩ := h
  refine ⟨ho, ?_⟩
  rw [hc, hr]
  omega

/-! ### Truncating and floor division -/

theorem natAbs_tmod_lt (a : Int) {b : Int} (hb : b ≠ 0) : (a.tmod b).natAbs < b.natAbs := by
  rw [Int.natAbs_tmod]
  exact Nat.mod_lt _ (Int.natAbs_pos.mpr hb)

/-- The remainder of truncating division has the dividend's sign. -/
theorem tmod_neg_iff {a b : Int} (h : a.tmod b ≠ 0) : a.tmod b < 0 ↔ a < 0 := by
  rcases Int.lt_or_le a 0 with ha | ha
  · have hneg := Int.tmod_nonneg b (Int.neg_nonneg_of_nonpos ha.le)
    rw [Int.neg_tmod] at hneg
    omega
  · have hpos := Int.tmod_nonneg b ha
    omega

/-- The remainder of floor division lies from 0 to the divisor, the divisor left out. -/
theorem fmod_between (a : Int) {b : Int} (hb : b ≠ 0) :
    (0 ≤ a.fmod b ∧ a.fmod b < b) ∨ (b < a.fmod b ∧ a.fmod b ≤ 0) := by
  rcases Int.lt_or_gt_of_ne hb with hneg | hpos
  · have hlow := Int.fmod_nonneg_of_pos (-a) (b := -b) (by omega)
    have hhigh := Int.fmod_lt_of_pos (-a) (b := -b) (by omega)
    rw [Int.neg_fmod_neg] at hlow hhigh
    omega
  · exact .inl ⟨Int.fmod_nonneg_of_pos a hpos, Int.fmod_lt_of_pos a hpos⟩

theorem natAbs_fmod_lt (a : Int) {b : Int} (hb : b ≠ 0) : (a.fmod b).natAbs < b.natAbs := by
  have hbetween := fmod_between a hb
  omega

/-- The remainder of floor division has the divisor's sign. -/
theorem fmod_neg_iff {a b : Int} (hb : b ≠ 0) (h : a.fmod b ≠ 0) : a.fmod b < 0 ↔ b < 0 := by
  have hbetween := fmod_between a hb
  omega

/-! ### The results of division -/

theorem toInt_ne_zero {b : Word} (hb : b ≠ 0) : b.toInt ≠ 0 :=
  fun h => hb (BitVec.eq_of_toInt_eq h)

/-- A number smaller in size than a word's signed reading is the signed reading of its own word. -/
theorem toInt_ofInt_of_natAbs_lt {b : Word} {v : Int} (h : v.natAbs < b.toInt.natAbs) :
    (BitVec.ofInt 16 v).toInt = v := by
  have hlow := BitVec.le_toInt b
  have hhigh := BitVec.toInt_lt (x := b)
  rw [BitVec.toInt_ofInt]
  exact Int.bmod_eq_of_le (by omega) (by omega)

theorem toNat_ofInt_cast (q : Int) : ((BitVec.ofInt 16 q).toNat : Int) = q % 65536 := by
  rw [BitVec.toNat_ofInt]
  exact Int.toNat_of_nonneg (Int.emod_nonneg q (by decide))

/-- What `Div(a, b)` answers for a divisor other than 0 (41 R175). -/
theorem aluDiv_answers (f : Flags) (a : Word) {b : Word} (hb : b ≠ 0) :
    ∃ out, aluDiv f a b = .ok out ∧ DivSpec a b out.1 out.2 := by
  refine ⟨_, divChecked_ne _ hb, a.toInt.tdiv b.toInt, a.toInt.tmod b.toInt,
    (Int.mul_tdiv_add_tmod _ _).symm, natAbs_tmod_lt _ (toInt_ne_zero hb), tmod_neg_iff,
    toNat_ofInt_cast _, ?_, rfl, znSpec_setZN _ _⟩
  rw [Int.tmod_def]
  exact decide_eq_true_iff

/-- What `Mod(a, b)` answers for a divisor other than 0 (41 R175). -/
theorem aluMod_answers (f : Flags) (a : Word) {b : Word} (hb : b ≠ 0) :
    ∃ out, aluMod f a b = .ok out ∧ ModSpec f.c a b out.1 out.2 := by
  have hsigned : (BitVec.ofInt 16 (a.toInt.fmod b.toInt)).toInt = a.toInt.fmod b.toInt :=
    toInt_ofInt_of_natAbs_lt (natAbs_fmod_lt _ (toInt_ne_zero hb))
  refine ⟨_, divChecked_ne _ hb, a.toInt.fdiv b.toInt, ?_⟩
  rw [← Int.fmod_def, hsigned]
  exact ⟨(Int.mul_fdiv_add_fmod _ _).symm, natAbs_fmod_lt _ (toInt_ne_zero hb),
    fmod_neg_iff (toInt_ne_zero hb), rfl, rfl, znSpec_setZN _ _⟩

/-- What `Rem(a, b)` answers for a divisor other than 0 (41 R175). -/
theorem aluRem_answers (f : Flags) (a : Word) {b : Word} (hb : b ≠ 0) :
    ∃ out, aluRem f a b = .ok out ∧ RemSpec f.c a b out.1 out.2 := by
  have hsigned : (BitVec.ofInt 16 (a.toInt.tmod b.toInt)).toInt = a.toInt.tmod b.toInt :=
    toInt_ofInt_of_natAbs_lt (natAbs_tmod_lt _ (toInt_ne_zero hb))
  refine ⟨_, divChecked_ne _ hb, a.toInt.tdiv b.toInt, ?_⟩
  rw [← Int.tmod_def, hsigned]
  exact ⟨(Int.mul_tdiv_add_tmod _ _).symm, natAbs_tmod_lt _ (toInt_ne_zero hb),
    tmod_neg_iff, rfl, rfl, znSpec_setZN _ _⟩

/-! ### The operand forms -/

variable {P : Word → Flags → Prop}

/-- A register destination: what holds of a result and its flags holds of what is written. -/
theorem aluResult_writes (s : State) (d : Reg) {out : AluOut} (h : P out.1 out.2) :
    ∃ t r f, aluResult s d out = .next t ∧ WritesRegFlags d r f s t ∧ P r f :=
  ⟨_, out.1, out.2, aluResult_eq s d out, writesRegFlags_advance s d out.1 out.2, h⟩

/-- A compare writes the flags alone: its result is dropped. -/
theorem aluFlagsOnly_writes (s : State) {out : AluOut} (h : P out.1 out.2) :
    ∃ t r f, aluFlagsOnly s out = .next t ∧ WritesFlags f s t ∧ P r f :=
  ⟨_, out.1, out.2, aluFlagsOnly_eq s out, ⟨rfl, rfl, fun _ _ => rfl, rfl, fun _ => rfl,
    by simp [KeepsRest, KeepsSprite, KeepsEnv, KeepsOutput]⟩, h⟩

theorem divResult_writes (s : State) (d : Reg) {e : Except Fault AluOut}
    (h : ∃ out, e = .ok out ∧ P out.1 out.2) :
    ∃ t r f, divResult s d e = .next t ∧ WritesRegFlags d r f s t ∧ P r f := by
  obtain ⟨out, rfl, hout⟩ := h
  exact aluResult_writes s d hout

/-- A zero divisor faults, whatever the division would have given (41 R175). -/
theorem divResult_faults (s : State) (d : Reg) {b : Word} (out : AluOut) (hb : b = 0) :
    divResult s d (divChecked b out) = .fault .divisionByZero := by
  rw [divResult, hb, divChecked_zero, orRaise_error]

/-! What the next state itself shows of the exact outcome (41 R185). -/

theorem addResult_reports (s : State) (d : Reg) (a b : Word) :
    ∃ t, aluResult s d (aluAdd s.flags a b) = .next t ∧
      (t.flags.o = true ↔ (t.reg d).toInt ≠ a.toInt + b.toInt) ∧
      (t.flags.c = true ↔ (t.reg d).toNat ≠ a.toNat + b.toNat) := by
  obtain ⟨t, r, f, hnext, ⟨rfl, rfl, -⟩, hadd⟩ := aluResult_writes s d (aluAdd_spec s.flags a b)
  exact ⟨t, hnext, hadd.reports⟩

theorem subResult_reports (s : State) (d : Reg) (a b : Word) :
    ∃ t, aluResult s d (aluSub s.flags a b) = .next t ∧
      (t.flags.o = true ↔ (t.reg d).toInt ≠ a.toInt - b.toInt) ∧
      (t.flags.c = true ↔ (t.reg d).toNat + b.toNat ≠ a.toNat) := by
  obtain ⟨t, r, f, hnext, ⟨rfl, rfl, -⟩, hsub⟩ := aluResult_writes s d (aluSub_spec s.flags a b)
  exact ⟨t, hnext, hsub.reports⟩

theorem mulResult_reports (s : State) (d : Reg) (a b : Word) :
    ∃ t, aluResult s d (aluMul s.flags a b) = .next t ∧ t.flags.o = false ∧
      (t.flags.c = true ↔ (t.reg d).toNat ≠ a.toNat * b.toNat) := by
  obtain ⟨t, r, f, hnext, ⟨rfl, rfl, -⟩, hmul⟩ := aluResult_writes s d (aluMul_spec s.flags a b)
  exact ⟨t, hnext, hmul.reports⟩

end Sys2Proof.Machine

/-- Settles O7: each form ends in `Add`. -/
theorem additionResultAndFlags : Obligations.AdditionResultAndFlags :=
  ⟨decodesRI_of_operationOf (op := 0x40) fun _ => rfl,
    decodesRR_of_operationOf (op := 0x41) fun _ => rfl,
    decodesRRR_of_operationOf (op := 0x42) fun _ => rfl,
    fun s x _ z _ =>
      ⟨aluResult_writes s x (aluAdd_spec _ _ _), aluResult_writes s x (aluAdd_spec _ _ _),
        aluResult_writes s z (aluAdd_spec _ _ _)⟩⟩

/-- Settles O8: each form ends in `Sub`. -/
theorem subtractionResultAndFlags : Obligations.SubtractionResultAndFlags :=
  ⟨decodesRI_of_operationOf (op := 0x50) fun _ => rfl,
    decodesRR_of_operationOf (op := 0x51) fun _ => rfl,
    decodesRRR_of_operationOf (op := 0x52) fun _ => rfl,
    fun s x _ z _ =>
      ⟨aluResult_writes s x (aluSub_spec _ _ _), aluResult_writes s x (aluSub_spec _ _ _),
        aluResult_writes s z (aluSub_spec _ _ _)⟩⟩

/-- Settles O9: both forms end in `Sub`, and its result is dropped. -/
theorem compareWritesOnlyFlags : Obligations.CompareWritesOnlyFlags :=
  ⟨decodesRI_of_operationOf (op := 0x53) fun _ => rfl,
    decodesRR_of_operationOf (op := 0x54) fun _ => rfl,
    fun s _ _ _ =>
      ⟨aluFlagsOnly_writes s (aluSub_spec _ _ _), aluFlagsOnly_writes s (aluSub_spec _ _ _)⟩⟩

/-- Settles O10: the rules of `Add`, `Sub` and `Mul` fix what C and O say of the exact outcome. -/
theorem carryAndOverflowReportTheOutcome : Obligations.CarryAndOverflowReportTheOutcome := by
  intro s x y z imm
  simp only [List.forall_mem_cons, List.not_mem_nil, false_implies, implies_true, and_true]
  refine ⟨⟨?addi, ?add0, ?add1⟩, ⟨?subi, ?sub0, ?sub1⟩, ⟨?muli, ?mul0, ?mul1⟩⟩
  case addi | add0 | add1 => exact addResult_reports s _ _ _
  case subi | sub0 | sub1 => exact subResult_reports s _ _ _
  case muli | mul0 | mul1 => exact mulResult_reports s _ _ _

/-- Settles O11: each form ends in `Mul`. -/
theorem multiplicationResultAndFlags : Obligations.MultiplicationResultAndFlags :=
  ⟨decodesRI_of_operationOf (op := 0x90) fun _ => rfl,
    decodesRR_of_operationOf (op := 0x91) fun _ => rfl,
    decodesRRR_of_operationOf (op := 0x92) fun _ => rfl,
    fun s x _ z _ =>
      ⟨aluResult_writes s x (aluMul_spec _ _ _), aluResult_writes s x (aluMul_spec _ _ _),
        aluResult_writes s z (aluMul_spec _ _ _)⟩⟩

/-- Settles O12: each form ends in `Div`, after the check of the divisor. -/
theorem divisionResultAndFlags : Obligations.DivisionResultAndFlags :=
  ⟨decodesRI_of_operationOf (op := 0xA0) fun _ => rfl,
    decodesRR_of_operationOf (op := 0xA1) fun _ => rfl,
    decodesRRR_of_operationOf (op := 0xA2) fun _ => rfl,
    fun s x _ z _ =>
      ⟨fun hb => divResult_writes s x (aluDiv_answers _ _ hb), divResult_faults s x _,
        fun hb => divResult_writes s x (aluDiv_answers _ _ hb),
        fun hb => divResult_writes s z (aluDiv_answers _ _ hb),
        fun hb => ⟨divResult_faults s x _ hb, divResult_faults s z _ hb⟩⟩⟩

/-- Settles O13: each form ends in `Mod`, after the check of the divisor. -/
theorem moduloResultAndFlags : Obligations.ModuloResultAndFlags :=
  ⟨decodesRI_of_operationOf (op := 0xA3) fun _ => rfl,
    decodesRR_of_operationOf (op := 0xA4) fun _ => rfl,
    decodesRRR_of_operationOf (op := 0xA5) fun _ => rfl,
    fun s x _ z _ =>
      ⟨fun hb => divResult_writes s x (aluMod_answers _ _ hb), divResult_faults s x _,
        fun hb => divResult_writes s x (aluMod_answers _ _ hb),
        fun hb => divResult_writes s z (aluMod_answers _ _ hb),
        fun hb => ⟨divResult_faults s x _ hb, divResult_faults s z _ hb⟩⟩⟩

/-- Settles O14: each form ends in `Rem`, after the check of the divisor. -/
theorem remainderResultAndFlags : Obligations.RemainderResultAndFlags :=
  ⟨decodesRI_of_operationOf (op := 0xA6) fun _ => rfl,
    decodesRR_of_operationOf (op := 0xA7) fun _ => rfl,
    decodesRRR_of_operationOf (op := 0xA8) fun _ => rfl,
    fun s x _ z _ =>
      ⟨fun hb => divResult_writes s x (aluRem_answers _ _ hb), divResult_faults s x _,
        fun hb => divResult_writes s x (aluRem_answers _ _ hb),
        fun hb => divResult_writes s z (aluRem_answers _ _ hb),
        fun hb => ⟨divResult_faults s x _ hb, divResult_faults s z _ hb⟩⟩⟩
end

section
/-! SUPPORT. The logic instructions against their rules: bit by bit, in arithmetic, and their flags
(42 R200 to R217). -/

open Sys2Proof Sys2Proof.Machine

namespace Sys2Proof

/-- An arm of format R (30 R109). -/
theorem decodesR_of_operationOf {op : Byte} {f : Reg → Instr}
    (harm : ∀ w, operationOf op w = some (f (regField w 0))) : DecodesR op.toNat f :=
  decodes_of_operationOf fun w => by
    rw [harm, regAt_eq_regField w 0]

end Sys2Proof

namespace Sys2Proof.Machine

/-! ### The bits of a conjunction, a disjunction and an exclusive or -/

theorem bitAt_and (a b : Word) (k : Nat) : bitAt (a &&& b) k = bitAt a k * bitAt b k := by
  simp only [bitAt_eq_toNat, BitVec.getLsbD_and]
  cases a.getLsbD k <;> cases b.getLsbD k <;> rfl

theorem bitAt_or (a b : Word) (k : Nat) : bitAt (a ||| b) k = max (bitAt a k) (bitAt b k) := by
  simp only [bitAt_eq_toNat, BitVec.getLsbD_or]
  cases a.getLsbD k <;> cases b.getLsbD k <;> rfl

theorem bitAt_xor (a b : Word) (k : Nat) : bitAt (a ^^^ b) k = (bitAt a k + bitAt b k) % 2 := by
  simp only [bitAt_eq_toNat, BitVec.getLsbD_xor]
  cases a.getLsbD k <;> cases b.getLsbD k <;> rfl

/-! ### Complement and negation -/

/-- The exclusive or with 0xFFFF inverts every bit (42 R212). -/
theorem xor_ffff (v : Word) : v ^^^ 0xFFFF = ~~~ v := BitVec.xor_allOnes

theorem toNat_xor_ffff (v : Word) : (v ^^^ 0xFFFF).toNat = 0xFFFF - v.toNat := by
  rw [xor_ffff, BitVec.toNat_not]

theorem toNat_negWord (v : Word) : (negWord v).toNat = (0x10000 - v.toNat) % 65536 :=
  BitVec.toNat_ofNat _ _

/-! ### The flags and the operand forms -/

/-- `LogicFlags(r)` (42 R200). -/
theorem aluLogic_spec (f : Flags) (r : Word) :
    LogicSpec f.c (aluLogic f r).1 (aluLogic f r).2 :=
  ⟨aluLogic_c f r, aluLogic_o f r, znSpec_setZN _ _⟩

variable {Q : Word → Prop}

/-- A register destination: what holds of a logic result holds of what is written. -/
theorem logicResult_writes (s : State) (d : Reg) {v : Word} (h : Q v) :
    ∃ t r f, aluResult s d (aluLogic s.flags v) = .next t ∧ WritesRegFlags d r f s t ∧
      LogicSpec s.flags.c r f ∧ Q r :=
  aluResult_writes s d ⟨aluLogic_spec s.flags v, h⟩

/-- A test writes the flags of a logic result and drops the result (42 R204, R205). -/
theorem logicFlagsOnly_writes (s : State) {v : Word} (h : Q v) :
    ∃ t r f, aluFlagsOnly s (aluLogic s.flags v) = .next t ∧ WritesFlags f s t ∧
      LogicSpec s.flags.c r f ∧ Q r :=
  aluFlagsOnly_writes s ⟨aluLogic_spec s.flags v, h⟩

end Sys2Proof.Machine

/-- Settles O15: each form is a logic result, whose bits are those of its operator. -/
theorem andOrXorWorkBitByBit : Obligations.AndOrXorWorkBitByBit := by
  refine ⟨decodesRI_of_operationOf (op := 0x60) fun _ => rfl,
    decodesRR_of_operationOf (op := 0x61) fun _ => rfl,
    decodesRRR_of_operationOf (op := 0x62) fun _ => rfl,
    decodesRI_of_operationOf (op := 0x70) fun _ => rfl,
    decodesRR_of_operationOf (op := 0x71) fun _ => rfl,
    decodesRRR_of_operationOf (op := 0x72) fun _ => rfl,
    decodesRI_of_operationOf (op := 0x80) fun _ => rfl,
    decodesRR_of_operationOf (op := 0x81) fun _ => rfl,
    decodesRRR_of_operationOf (op := 0x82) fun _ => rfl,
    fun s x y z imm => ⟨?andi, ?and0, ?and1, ?ori, ?or0, ?or1, ?xori, ?xor0, ?xor1⟩⟩
  case andi | and0 | and1 => exact logicResult_writes s _ fun k _ => bitAt_and _ _ k
  case ori | or0 | or1 => exact logicResult_writes s _ fun k _ => bitAt_or _ _ k
  case xori | xor0 | xor1 => exact logicResult_writes s _ fun k _ => bitAt_xor _ _ k

/-- Settles O16: both forms end in the flags of the conjunction, and its result is dropped. -/
theorem testWritesOnlyFlags : Obligations.TestWritesOnlyFlags :=
  ⟨decodesRI_of_operationOf (op := 0x63) fun _ => rfl,
    decodesRR_of_operationOf (op := 0x64) fun _ => rfl,
    fun s _ _ _ =>
      ⟨logicFlagsOnly_writes s fun k _ => bitAt_and _ _ k,
        logicFlagsOnly_writes s fun k _ => bitAt_and _ _ k⟩⟩

/-- Settles O17: each form is a logic result, of the complement or of the negation. -/
theorem complementAndNegation : Obligations.ComplementAndNegation := by
  refine ⟨decodesRI_of_operationOf (op := 0xE0) fun _ => rfl,
    decodesR_of_operationOf (op := 0xE1) fun _ => rfl,
    decodesRR_of_operationOf (op := 0xE2) fun _ => rfl,
    decodesRI_of_operationOf (op := 0xE3) fun _ => rfl,
    decodesR_of_operationOf (op := 0xE4) fun _ => rfl,
    decodesRR_of_operationOf (op := 0xE5) fun _ => rfl,
    fun s x y imm => ⟨?noti, ?not0, ?not1, ?negi, ?neg0, ?neg1⟩⟩
  case noti | not0 | not1 => exact logicResult_writes s x (toNat_xor_ffff _)
  case negi | neg0 | neg1 => exact logicResult_writes s x (toNat_negWord _)
end

section
/-! SUPPORT. The shifts against their rule in arithmetic: the result, the last bit shifted out and the
amount 0 (43 R230 to R236). -/

open Sys2Proof Sys2Proof.Machine

namespace Sys2Proof

theorem nibAt_eq_nibField (w : InstrWord) (lo : Nat) : nibAt w (lo + 3) lo = nibField w lo := by
  have hwidth : lo + 3 + 1 - lo = 4 := by omega
  rw [nibAt, bitsAt_eq_extract, hwidth]
  exact (BitVec.ofNat_toNat 4 (nibField w lo)).trans (BitVec.setWidth_eq _)

/-- An arm of format RN (30 R107). -/
theorem decodesRN_of_operationOf {op : Byte} {f : Reg → Nibble → Instr}
    (harm : ∀ w, operationOf op w = some (f (regField w 16) (nibField w 0))) :
    DecodesRN op.toNat f :=
  decodes_of_operationOf fun w => by
    rw [harm, regAt_eq_regField w 16, nibAt_eq_nibField w 0]

end Sys2Proof

namespace Sys2Proof.Machine

/-! ### One form for every amount -/

/-- Where a shift by 0 leaves the value as it is, the amount 0 needs a case of its own in the carry
alone. -/
theorem shiftOut_of_amount {a r : Word} {n : Nibble} (f : Flags) (c : Bool) (hzero : n = 0 → r = a) :
    (if n = 0 then shiftOut f a false else shiftOut f r c) = shiftOut f r (n != 0 && c) := by
  split
  case isTrue hn => rw [hzero hn, hn]; rfl
  case isFalse hn => rw [bne_iff_ne.mpr hn, Bool.true_and]

theorem aluShl_eq (f : Flags) (a : Word) (n : Nibble) :
    aluShl f a n = shiftOut f (a <<< n.toNat) (n != 0 && a.getLsbD (16 - n.toNat)) :=
  shiftOut_of_amount f _ (by rintro rfl; exact BitVec.shiftLeft_zero a)

theorem aluShr_eq (f : Flags) (a : Word) (n : Nibble) :
    aluShr f a n = shiftOut f (a >>> n.toNat) (n != 0 && a.getLsbD (n.toNat - 1)) :=
  shiftOut_of_amount f _ (by rintro rfl; exact BitVec.ushiftRight_zero a)

theorem aluSar_eq (f : Flags) (a : Word) (n : Nibble) :
    aluSar f a n = shiftOut f (a.sshiftRight n.toNat) (n != 0 && a.getLsbD (n.toNat - 1)) :=
  shiftOut_of_amount f _ (by rintro rfl; exact BitVec.sshiftRight_zero)

/-! ### The results and the flags -/

theorem toNat_shiftLeft (a : Word) (n : Nat) : (a <<< n).toNat = a.toNat * 2 ^ n % 65536 := by
  rw [BitVec.toNat_shiftLeft, Nat.shiftLeft_eq]

theorem toNat_ushiftRight (a : Word) (n : Nat) : (a >>> n).toNat = a.toNat / 2 ^ n := by
  rw [BitVec.toNat_ushiftRight, Nat.shiftRight_eq_div_pow]

/-- An arithmetic shift right is a floor division. -/
theorem toInt_sshiftRight (a : Word) (n : Nat) :
    (a.sshiftRight n).toInt = a.toInt.fdiv (2 ^ n) := by
  rw [BitVec.toInt_sshiftRight, Int.shiftRight_eq_div_pow,
    Int.fdiv_eq_ediv_of_nonneg _ (by positivity)]
  norm_cast

/-- The flags of a shift by n whose last bit shifted out is bit k (43 R230). -/
theorem shiftOut_flags (f : Flags) (a r : Word) (n : Nibble) (k : Nat) :
    ((shiftOut f r (n != 0 && a.getLsbD k)).2.c = true ↔ n.toNat ≠ 0 ∧ bitAt a k = 1) ∧
      (shiftOut f r (n != 0 && a.getLsbD k)).2.o = false ∧
      ZNSpec r (shiftOut f r (n != 0 && a.getLsbD k)).2 := by
  refine ⟨?_, rfl, znSpec_setZN _ _⟩
  simp [shiftOut, setZN, bitAt_eq_toNat, BitVec.toNat_eq]

/-- `Shift(L, a, n)` (43 R230). -/
theorem aluShl_spec (f : Flags) (a : Word) (n : Nibble) :
    ShlSpec a n.toNat (aluShl f a n).1 (aluShl f a n).2 := by
  rw [aluShl_eq]
  exact ⟨toNat_shiftLeft _ _, shiftOut_flags _ _ _ _ _⟩

/-- `Shift(R, a, n)` (43 R230). -/
theorem aluShr_spec (f : Flags) (a : Word) (n : Nibble) :
    ShrSpec a n.toNat (aluShr f a n).1 (aluShr f a n).2 := by
  rw [aluShr_eq]
  exact ⟨toNat_ushiftRight _ _, shiftOut_flags _ _ _ _ _⟩

/-- `Shift(A, a, n)` (43 R230). -/
theorem aluSar_spec (f : Flags) (a : Word) (n : Nibble) :
    SarSpec a n.toNat (aluSar f a n).1 (aluSar f a n).2 := by
  rw [aluSar_eq]
  exact ⟨toInt_sshiftRight _ _, shiftOut_flags _ _ _ _ _⟩

/-- The low four bits of a register are its value modulo 16 (43 R234). -/
theorem toNat_shiftAmount (v : Word) : (shiftAmount v).toNat = v.toNat % 16 :=
  BitVec.extractLsb'_toNat _ _ _

end Sys2Proof.Machine

/-- Settles O18: each form ends in its shift, by the constant. -/
theorem constantShifts : Obligations.ConstantShifts :=
  ⟨decodesRN_of_operationOf (op := 0xB0) fun _ => rfl,
    decodesRN_of_operationOf (op := 0xB1) fun _ => rfl,
    decodesRN_of_operationOf (op := 0xB2) fun _ => rfl,
    fun s x n =>
      ⟨aluResult_writes s x (aluShl_spec _ _ n), aluResult_writes s x (aluShr_spec _ _ n),
        aluResult_writes s x (aluSar_spec _ _ n)⟩⟩

/-- Settles O19: each form ends in its shift, by the low four bits of x[Y] in the state before. -/
theorem registerShifts : Obligations.RegisterShifts := by
  refine ⟨decodesRR_of_operationOf (op := 0xB3) fun _ => rfl,
    decodesRR_of_operationOf (op := 0xB4) fun _ => rfl,
    decodesRR_of_operationOf (op := 0xB5) fun _ => rfl, fun s x y => ?_⟩
  rw [← toNat_shiftAmount (s.reg y)]
  exact ⟨aluResult_writes s x (aluShl_spec _ _ _), aluResult_writes s x (aluShr_spec _ _ _),
    aluResult_writes s x (aluSar_spec _ _ _)⟩
end

section
/-! SUPPORT. Control transfer: the formats A, CI and RRA, the condition table against the flags, and what
a jump, a push and a pop leave behind (20 R79 to R81, 44 R250 to R261). -/

open Sys2Proof Sys2Proof.Machine

namespace Sys2Proof

/-! ### The formats -/

theorem condTable_ofCode : ∀ k < 16, condTable[k]? = some (Cond.ofCode (BitVec.ofNat 4 k)) := by
  decide

/-- The condition a CI word's field names, by the table and by the opcode map (44 R250). -/
theorem condTable_getD_bitsAt (w : InstrWord) :
    condTable.getD (bitsAt w 19 16) .al = Cond.ofCode (nibField w 16) := by
  rw [bitsAt_eq_extract, List.getD_eq_getElem?_getD, condTable_ofCode _ (BitVec.isLt _),
    Option.getD_some, BitVec.ofNat_toNat, BitVec.setWidth_eq, nibField]

/-- An arm of format A (30 R104). -/
theorem decodesA_of_operationOf {op : Byte} {f : Word → Instr}
    (harm : ∀ w, operationOf op w = some (f (immField w))) : DecodesA op.toNat f :=
  decodes_of_operationOf fun w => by
    rw [harm, immAt_eq_immField]

/-- An arm of format CI (30 R106). -/
theorem decodesCI_of_operationOf {op : Byte} {f : Cond → Word → Instr}
    (harm : ∀ w, operationOf op w = some (f (Cond.ofCode (nibField w 16)) (immField w))) :
    DecodesCI op.toNat f :=
  decodes_of_operationOf fun w => by
    rw [harm, condTable_getD_bitsAt, immAt_eq_immField]

/-- An arm of format RRA (30 R112). -/
theorem decodesRRA_of_operationOf {op : Byte} {f : Reg → Reg → Word → Instr}
    (harm : ∀ w, operationOf op w = some (f (regField w 16) (regField w 20) (immField w))) :
    DecodesRRA op.toNat f :=
  decodes_of_operationOf fun w => by
    rw [harm, regAt_eq_regField w 16, regAt_eq_regField w 20, immAt_eq_immField]

end Sys2Proof

namespace Sys2Proof.Machine

/-! ### Conditions -/

/-- `Cond(c)` is the "holds when" column of 44 R250. -/
theorem condHolds_iff (f : Flags) (c : Cond) : condHolds f c = true ↔ CondSpec f c := by
  cases c <;> simp [condHolds, CondSpec]

/-- Zero after `Sub(a, b)`: the operands are equal. -/
theorem SubSpec.zero_iff {a b r : Word} {f : Flags} (h : SubSpec a b r f) :
    f.z = true ↔ a.toNat = b.toNat := by
  obtain ⟨hr, -, -, hz, -⟩ := h
  have ha := a.isLt
  have hb := b.isLt
  rw [hz]
  omega

/-- Overflow and Negative agree after `Sub(a, b)` when the exact signed difference is not negative. -/
theorem SubSpec.overflow_eq_negative_iff {a b r : Word} {f : Flags} (h : SubSpec a b r f) :
    f.o = f.n ↔ b.toInt ≤ a.toInt := by
  obtain ⟨hr, -, ho, -, hn⟩ := h
  have ha := a.isLt
  have hb := b.isLt
  rw [Bool.eq_iff_iff, ho, hn, toInt_eq_bitAt a, toInt_eq_bitAt b]
  unfold bitAt at *
  omega

/-- The ordering conditions on the flags of `Sub(a, b)` compare a with b (44 R250): C is a < b unsigned,
and signed a < b is O against N. -/
theorem SubSpec.comparisons {a b r : Word} {f : Flags} (h : SubSpec a b r f) :
    (condHolds f .a = true ↔ b.toNat < a.toNat) ∧ (condHolds f .ae = true ↔ b.toNat ≤ a.toNat) ∧
    (condHolds f .b = true ↔ a.toNat < b.toNat) ∧ (condHolds f .be = true ↔ a.toNat ≤ b.toNat) ∧
    (condHolds f .g = true ↔ b.toInt < a.toInt) ∧ (condHolds f .ge = true ↔ b.toInt ≤ a.toInt) ∧
    (condHolds f .l = true ↔ a.toInt < b.toInt) ∧ (condHolds f .le = true ↔ a.toInt ≤ b.toInt) := by
  have hz := h.zero_iff
  have hon := h.overflow_eq_negative_iff
  obtain ⟨-, hc, -⟩ := h
  have hsigned : a.toNat = b.toNat ↔ a.toInt = b.toInt := by
    rw [BitVec.toInt_inj, BitVec.toNat_inj]
  simp only [condHolds_iff, CondSpec, ← Bool.not_eq_true, ne_eq, hc, hz, hon, true_and]
  omega

/-! ### Jumps -/

theorem keepsRest_refl (s : State) : KeepsRest s s := by
  simp [KeepsRest, KeepsSprite, KeepsEnv, KeepsOutput]

theorem jumpTo_onlyPc (s : State) (a : Word) : ∃ t, jumpTo s a = .next t ∧ OnlyPc a s t :=
  ⟨_, jumpTo_eq s a, rfl, fun _ _ => rfl, rfl, rfl, fun _ => rfl, keepsRest_refl s⟩

theorem finish_onlyPc (s : State) : ∃ t, finish s = .next t ∧ OnlyPc (s.pc + 4) s t :=
  jumpTo_onlyPc s (s.pc + 4)

section
variable {p q : Prop} [Decidable p] (hpq : p ↔ q) (s : State) (a : Word)
include hpq

/-- A conditional jump whose condition is met (44 R253 to R255). -/
theorem branch_taken (hq : q) :
    ∃ t, (if p then jumpTo s a else finish s) = .next t ∧ OnlyPc a s t := by
  rw [if_pos (hpq.mpr hq)]
  exact jumpTo_onlyPc s a

/-- A conditional jump whose condition is not met. -/
theorem branch_not_taken (hq : ¬ q) :
    ∃ t, (if p then jumpTo s a else finish s) = .next t ∧ OnlyPc (s.pc + 4) s t := by
  rw [if_neg (mt hpq.mp hq)]
  exact finish_onlyPc s

end

/-! ### Pushing and popping a word -/

/-- A push does not fit at one stack pointer alone (20 R80). -/
theorem stackPos_lt_two_iff (sp : Word) : stackPos sp < 2 ↔ sp = 1 := by
  unfold stackPos
  split <;> bv_omega

/-- A pop leaves memory at two stack pointers alone (20 R81). -/
theorem lt_stackPos_add_two_iff (sp : Word) : 65536 < stackPos sp + 2 ↔ sp = 0 ∨ sp = 0xFFFF := by
  unfold stackPos
  split <;> bv_omega

/-- `Push(v)` with room for a word (20 R80). -/
theorem push_pushes {s : State} (v : Word) (h : s.sp ≠ 1) :
    ∃ t, push s v = .ok t ∧ PushedWord v s t ∧ t.pc = s.pc ∧ KeepsRegs [] s t ∧
      t.flags = s.flags ∧ KeepsRest s t := by
  have hroom : ¬ (stackPos s.sp < 2 ∨ Config.memSize < stackPos s.sp) := by
    rw [stackPos_lt_two_iff]
    exact not_or.mpr ⟨h, Nat.not_lt.mpr (stackPos_bounds s.sp).2⟩
  exact ⟨_, if_neg hroom, ⟨holdsWord_writeWord _ _ v, keepsMemOutside_writeWord s _ v,
    BitVec.toNat_ofNat _ _⟩, rfl, fun _ _ => rfl, rfl, keepsRest_refl s⟩

theorem push_overflows {s : State} (v : Word) (h : s.sp = 1) :
    push s v = .error (.stackOverflow s.sp) :=
  if_pos (.inl ((stackPos_lt_two_iff s.sp).mpr h))

/-- `Pop()` with a word below the top of memory (20 R81). -/
theorem pop_pops {s : State} (hzero : s.sp ≠ 0) (htop : s.sp ≠ 0xFFFF) :
    ∃ v t, pop s = .ok (v, t) ∧ PoppedWord v s t ∧ t.pc = s.pc ∧ KeepsRegs [] s t ∧
      t.flags = s.flags ∧ KeepsRest s t := by
  have hroom : ¬ Config.memSize < stackPos s.sp + 2 := by
    rw [memSize_eq, lt_stackPos_add_two_iff]
    exact not_or.mpr ⟨hzero, htop⟩
  exact ⟨_, _, if_neg hroom, ⟨holdsWord_readWord _ _, fun _ => rfl, BitVec.toNat_ofNat _ _⟩, rfl,
    fun _ _ => rfl, rfl, keepsRest_refl s⟩

theorem pop_underflows {s : State} (h : s.sp = 0 ∨ s.sp = 0xFFFF) :
    pop s = .error (.stackUnderflow s.sp) :=
  if_pos (by rwa [memSize_eq, lt_stackPos_add_two_iff])

/-! ### A pop after a push -/

/-- Two bytes hold one word. -/
theorem HoldsWord.unique {m : Memory} {p : Nat} {v w : Word} (hv : HoldsWord m p v)
    (hw : HoldsWord m p w) : v = w := by
  obtain ⟨hvhigh, hvlow⟩ := hv
  obtain ⟨hwhigh, hwlow⟩ := hw
  exact BitVec.eq_of_toNat_eq (by omega)

theorem KeepsMem.holdsWord_iff {s t : State} (h : KeepsMem s t) (p : Nat) (v : Word) :
    HoldsWord t.mem p v ↔ HoldsWord s.mem p v := by
  rw [HoldsWord, HoldsWord, h, h]

variable {s t u r : State} {v w : Word}

/-- The stack position after a push is one word down, unless the push reached address 0 (93 I12). -/
theorem PushedWord.stackPos_sp (h : PushedWord v s t) (h1 : s.sp ≠ 1) (h2 : s.sp ≠ 2) :
    2 ≤ stackPos s.sp ∧ stackPos t.sp = stackPos s.sp - 2 := by
  obtain ⟨-, -, hsp⟩ := h
  have hroom : 2 < stackPos s.sp := by
    unfold stackPos
    split <;> bv_omega
  have htop := (stackPos_bounds s.sp).2
  rw [Nat.mod_eq_of_lt (by omega)] at hsp
  have hne : t.sp ≠ 0 := by bv_omega
  exact ⟨by omega, by rw [stackPos_of_ne hne, hsp]⟩

/-- A pop with the stack a push left takes the word pushed and puts sp back. -/
theorem PushedWord.popped (hpush : PushedWord v s t) (h1 : s.sp ≠ 1) (h2 : s.sp ≠ 2)
    (hsp : u.sp = t.sp) (hmem : KeepsMem t u) (hpop : PoppedWord w u r) : w = v ∧ r.sp = s.sp := by
  obtain ⟨hroom, hpos⟩ := hpush.stackPos_sp h1 h2
  obtain ⟨hstored, -, -⟩ := hpush
  obtain ⟨hread, -, hback⟩ := hpop
  rw [hsp, hpos] at hread hback
  refine ⟨((hmem.holdsWord_iff _ w).mp hread).unique hstored, BitVec.eq_of_toNat_eq ?_⟩
  rw [hback, Nat.sub_add_cancel hroom, stackPos_mod]

/-- A stack that a push left can be popped. -/
theorem PushedWord.poppable (hpush : PushedWord v s t) (h1 : s.sp ≠ 1) (h2 : s.sp ≠ 2) :
    t.sp ≠ 0 ∧ t.sp ≠ 0xFFFF := by
  obtain ⟨hroom, hpos⟩ := hpush.stackPos_sp h1 h2
  have htop := (stackPos_bounds s.sp).2
  rw [← not_or, ← lt_stackPos_add_two_iff]
  omega

/-! ### Calls and returns -/

/-- A call with room for a word pushes next_pc and jumps (44 R256). -/
theorem callTo_calls (a : Word) (h : s.sp ≠ 1) :
    ∃ t, callTo s a = .next t ∧ PushedWord (s.pc + 4) s t ∧ t.pc = a ∧ KeepsRegs [] s t ∧
      t.flags = s.flags ∧ KeepsRest s t := by
  obtain ⟨u, hpush, hword, -, hregs, hflags, hrest⟩ := push_pushes s.nextPc h
  refine ⟨u.setPc a, ?_, hword, rfl, hregs, hflags, hrest⟩
  rw [callTo, hpush, orRaise_ok, jumpTo_eq]

theorem callTo_faults (a : Word) (h : s.sp = 1) : callTo s a = .fault (.stackOverflow s.sp) := by
  rw [callTo, push_overflows _ h, orRaise_error]

/-- A return with a word below the top of memory pops it into pc (44 R257). -/
theorem execRet_returns (hzero : s.sp ≠ 0) (htop : s.sp ≠ 0xFFFF) :
    ∃ t, execRet s = .next t ∧ PoppedWord t.pc s t ∧ KeepsRegs [] s t ∧ t.flags = s.flags ∧
      KeepsRest s t := by
  obtain ⟨v, u, hpop, hword, -, hregs, hflags, hrest⟩ := pop_pops hzero htop
  refine ⟨u.setPc v, ?_, hword, hregs, hflags, hrest⟩
  rw [execRet, hpop, orRaise_ok, jumpTo_eq]

theorem execRet_faults (h : s.sp = 0 ∨ s.sp = 0xFFFF) :
    execRet s = .fault (.stackUnderflow s.sp) := by
  rw [execRet, pop_underflows h, orRaise_error]

theorem exec_cx_of_holds {c : Cond} (a : Word) (h : CondSpec s.flags c) :
    exec (.cx c a) s = callTo s a :=
  if_pos ((condHolds_iff _ c).mpr h)

theorem exec_cx_of_not_holds {c : Cond} (a : Word) (h : ¬ CondSpec s.flags c) :
    exec (.cx c a) s = finish s :=
  if_neg (mt (condHolds_iff _ c).mp h)

end Sys2Proof.Machine

/-- Settles O21: a jump writes pc alone, and a branch not taken moves pc as a jump to next_pc does. -/
theorem jumpsChangeOnlyPc : Obligations.JumpsChangeOnlyPc :=
  ⟨decodesA_of_operationOf (op := 0x10) fun _ => rfl,
    decodesA_of_operationOf (op := 0x11) fun _ => rfl,
    decodesCI_of_operationOf (op := 0x12) fun _ => rfl,
    decodesRRA_of_operationOf (op := 0x13) fun _ => rfl,
    decodesR_of_operationOf (op := 0x16) fun _ => rfl,
    fun s x _ c imm =>
      ⟨jumpTo_onlyPc s imm, jumpTo_onlyPc s (s.reg x),
        branch_taken Iff.rfl s imm, fun hc => branch_not_taken Iff.rfl s imm (ne_true_of_eq_false hc),
        branch_taken (condHolds_iff _ c) s imm, branch_not_taken (condHolds_iff _ c) s imm,
        branch_taken Iff.rfl s imm, branch_not_taken Iff.rfl s imm⟩⟩

/-- Settles O20: the ordering conditions read the flags that `Sub` fixes. -/
theorem conditionTableAndComparisons : Obligations.ConditionTableAndComparisons :=
  ⟨condTable_ofCode, condHolds_iff, fun s _ _ =>
    ⟨_, aluFlagsOnly_eq s _, (aluSub_spec _ _ _).comparisons⟩⟩

/-- Settles O22: both calls push next_pc and jump. -/
theorem callsPushTheReturnAddress : Obligations.CallsPushTheReturnAddress :=
  ⟨decodesA_of_operationOf (op := 0x14) fun _ => rfl,
    decodesR_of_operationOf (op := 0x18) fun _ => rfl,
    fun s x imm =>
      ⟨callTo_calls imm, callTo_calls (s.reg x),
        fun h => ⟨callTo_faults imm h, callTo_faults (s.reg x) h⟩⟩⟩

/-- Settles O23: CX is a call where its condition holds and only moves on where it does not. -/
theorem conditionalCall : Obligations.ConditionalCall := by
  refine ⟨decodesCI_of_operationOf (op := 0x17) fun _ => rfl,
    fun s c addr => ⟨fun hc hsp => ?calls, fun hc hsp => ?overflows, fun hc => ?passes⟩⟩
  case calls => rw [exec_cx_of_holds addr hc]; exact callTo_calls addr hsp
  case overflows => rw [exec_cx_of_holds addr hc, callTo_faults addr hsp]
  case passes => rw [exec_cx_of_not_holds addr hc]; exact finish_onlyPc s

/-- Settles O24: RET pops into pc. -/
theorem returnPopsPc : Obligations.ReturnPopsPc :=
  ⟨decodes_of_operationOf (op := 0x15) fun _ => rfl, fun _ => ⟨execRet_returns, execRet_faults⟩⟩

/-- Settles O25: RET pops the word that CALL0 pushed. -/
theorem callThenReturn : Obligations.CallThenReturn := by
  intro s t u imm h1 h2 hcall hsp hmem
  obtain ⟨t', hnext, hpush, -⟩ := callTo_calls imm h1
  obtain rfl : t' = t := Host.Outcome.next.inj (hnext.symm.trans hcall)
  obtain ⟨hzero, htop⟩ := hpush.poppable h1 h2
  rw [← hsp] at hzero htop
  obtain ⟨v, hret, hpop, -⟩ := execRet_returns hzero htop
  exact ⟨v, hret, hpush.popped h1 h2 hsp hmem hpop⟩
end

section
/-! SUPPORT. The stack instructions: a word or the flags pushed and popped, the sixteen registers written
downward from the stack position, and a pop of all after a push of all (45 R280 to R285). -/

open Sys2Proof Sys2Proof.Machine

namespace Sys2Proof.Machine

/-! ### The flags as a stack word -/

/-- The high byte of the word PUSHF pushes is 0 (45 R284). -/
theorem flagsWord_toNat (f : Flags) : (flagsWord f).toNat = (flagsByte f).toNat :=
  BitVec.toNat_setWidth_of_le (by decide)

theorem getLsbD_iff_bitAt (v : Word) (k : Nat) : v.getLsbD k = true ↔ bitAt v k = 1 := by
  rw [bitAt_eq_toNat, Bool.toNat_eq_one]

/-! ### One word -/

variable {s t u r : State}

/-- A push that ends an instruction (45 R280, R284). -/
theorem pushThenFinish_pushes (v : Word) (h : s.sp ≠ 1) :
    ∃ t, orRaise (push s v) finish = .next t ∧ PushedWord v s t ∧ t.pc = s.pc + 4 ∧
      KeepsRegs [] s t ∧ t.flags = s.flags ∧ KeepsRest s t := by
  obtain ⟨u, hpush, hword, hpc, hregs, hflags, hrest⟩ := push_pushes v h
  refine ⟨u.advance, ?_, hword, congrArg (· + 4) hpc, hregs, hflags, hrest⟩
  rw [hpush, orRaise_ok, finish_eq]

theorem pushThenFinish_faults (v : Word) (h : s.sp = 1) :
    orRaise (push s v) finish = .fault (.stackOverflow s.sp) := by
  rw [push_overflows v h, orRaise_error]

/-- POP with a word below the top of memory (45 R281). -/
theorem execPop_loads (x : Reg) (hzero : s.sp ≠ 0) (htop : s.sp ≠ 0xFFFF) :
    ∃ t, execPop x s = .next t ∧ PoppedWord (t.reg x) s t ∧ t.pc = s.pc + 4 ∧ KeepsRegs [x] s t ∧
      t.flags = s.flags ∧ KeepsRest s t := by
  obtain ⟨v, u, hpop, hword, hpc, hregs, hflags, hrest⟩ := pop_pops hzero htop
  refine ⟨(u.setReg x v).advance, ?_, ?_, congrArg (· + 4) hpc, fun y hy => ?_, hflags, hrest⟩
  · rw [execPop, hpop, orRaise_ok, regResult_eq]
  · rw [State.advance_reg, State.reg_setReg_same]
    exact hword
  · exact (keepsRegs_setReg u x v y hy).trans (hregs y List.not_mem_nil)

theorem execPop_faults (x : Reg) (h : s.sp = 0 ∨ s.sp = 0xFFFF) :
    execPop x s = .fault (.stackUnderflow s.sp) := by
  rw [execPop, pop_underflows h, orRaise_error]

/-- POPF with a word below the top of memory (45 R285). -/
theorem execPopf_setsFlags (hzero : s.sp ≠ 0) (htop : s.sp ≠ 0xFFFF) :
    ∃ t v, execPopf s = .next t ∧ PoppedWord v s t ∧ t.flags = flagsOfWord v ∧ t.pc = s.pc + 4 ∧
      KeepsRegs [] s t ∧ KeepsRest s t := by
  obtain ⟨v, u, hpop, hword, hpc, hregs, -, hrest⟩ := pop_pops hzero htop
  refine ⟨(u.setFlags (flagsOfWord v)).advance, v, ?_, hword, rfl, congrArg (· + 4) hpc, hregs, hrest⟩
  rw [execPopf, hpop, orRaise_ok, finish_eq]

theorem execPopf_faults (h : s.sp = 0 ∨ s.sp = 0xFFFF) :
    execPopf s = .fault (.stackUnderflow s.sp) := by
  rw [execPopf, pop_underflows h, orRaise_error]

/-- POPF with the stack a PUSHF left takes the flags pushed and puts sp back (45 R284, R285). -/
theorem execPopf_undoes_pushf (hpush : PushedWord (flagsWord s.flags) s t) (h1 : s.sp ≠ 1)
    (h2 : s.sp ≠ 2) (hsp : u.sp = t.sp) (hmem : KeepsMem t u) :
    ∃ r, execPopf u = .next r ∧ r.flags = s.flags ∧ r.sp = s.sp := by
  obtain ⟨hzero, htop⟩ := hpush.poppable h1 h2
  rw [← hsp] at hzero htop
  obtain ⟨r, v, hnext, hpop, hflags, -⟩ := execPopf_setsFlags hzero htop
  obtain ⟨rfl, hback⟩ := hpush.popped h1 h2 hsp hmem hpop
  exact ⟨r, hnext, hflags.trans (flagsOfWord_flagsWord s.flags), hback⟩

/-! ### Words written downward -/

/-- Words written downward from p change no byte at or above p or below the last of them. -/
theorem readByte_writeDown_other (vs : List Word) (m : Memory) (p b : Nat)
    (hroom : 2 * vs.length ≤ p) (hb : b < p - 2 * vs.length ∨ p ≤ b) :
    readByte (writeDown m p vs) b = readByte m b := by
  induction vs generalizing m p with
  | nil => rfl
  | cons v vs ih =>
    rw [List.length_cons] at hroom hb
    rw [writeDown, ih _ _ (by omega) (by omega), readByte_writeWord_other _ _ _ _ (by omega)]

/-- The word of index i lies i + 1 words below p (45 R282). -/
theorem holdsWord_writeDown (vs : List Word) (m : Memory) (p i : Nat) (hi : i < vs.length)
    (hroom : 2 * vs.length ≤ p) : HoldsWord (writeDown m p vs) (p - 2 * (i + 1)) vs[i] := by
  induction vs generalizing m p i with
  | nil => exact absurd hi (Nat.not_lt_zero i)
  | cons v vs ih =>
    rw [List.length_cons] at hi hroom
    cases i with
    | zero =>
      have hfirst := holdsWord_writeWord m (p - 2) v
      rw [HoldsWord] at hfirst ⊢
      rw [writeDown, readByte_writeDown_other _ _ _ _ (by omega) (by omega),
        readByte_writeDown_other _ _ _ _ (by omega) (by omega)]
      exact hfirst
    | succ j =>
      have hplace : p - 2 * (j + 1 + 1) = p - 2 - 2 * (j + 1) := by omega
      rw [hplace]
      exact ih _ _ j (by omega) (by omega)

/-! ### All sixteen registers -/

/-- r0 to r15 are pushed: ri lies at S(sp) - 2(i + 1), sp is S(sp) - 32 modulo 2^16, and every byte
outside those 32 is unchanged (45 R282). -/
def PushedRegs (s t : State) : Prop :=
  (∀ i : Reg, HoldsWord t.mem (stackPos s.sp - 2 * (i.val + 1)) (s.reg i)) ∧
    KeepsMemOutside (stackPos s.sp - 32) 32 s t ∧ t.sp.toNat = (stackPos s.sp - 32) % 65536

/-- r15 to r0 are popped: ri is the word at S(sp) + 30 - 2i, memory is unchanged, and sp is S(sp) + 32
modulo 2^16 (45 R283). -/
def PoppedRegs (s t : State) : Prop :=
  (∀ i : Reg, HoldsWord s.mem (stackPos s.sp + 30 - 2 * i.val) (t.reg i)) ∧ KeepsMem s t ∧
    t.sp.toNat = (stackPos s.sp + 32) % 65536

/-- Sixteen words do not fit below the stack position at sp 1 to 0x1F alone (45 R282). -/
theorem stackPos_lt_pushAll_iff (sp : Word) :
    stackPos sp < 32 ↔ 1 ≤ sp.toNat ∧ sp.toNat ≤ 0x1F := by
  unfold stackPos
  split <;> bv_omega

/-- Sixteen words leave memory at sp = 0 and above 0xFFE0 alone (45 R283). -/
theorem lt_stackPos_add_popAll_iff (sp : Word) :
    65536 < stackPos sp + 32 ↔ sp = 0 ∨ 0xFFE0 < sp.toNat := by
  unfold stackPos
  split <;> bv_omega

/-- PUSHALL's pushes with room for sixteen words (45 R282). -/
theorem pushAll_pushes (hroom : 32 ≤ stackPos s.sp) :
    ∃ t, pushAll s = .ok t ∧ PushedRegs s t ∧ t.pc = s.pc ∧ KeepsRegs [] s t ∧
      t.flags = s.flags ∧ KeepsRest s t := by
  have hlength : s.regs.toList.length = 16 := Vector.length_toList
  refine ⟨_, if_neg (Nat.not_lt.mpr hroom), ⟨fun i => ?words, fun b hb => ?bytes,
    BitVec.toNat_ofNat _ _⟩, rfl, fun _ _ => rfl, rfl, keepsRest_refl s⟩
  case words => exact holdsWord_writeDown s.regs.toList s.mem (stackPos s.sp) i (by omega) (by omega)
  case bytes => exact readByte_writeDown_other _ _ _ _ (by omega) (by omega)

theorem execPushall_pushes (hroom : 32 ≤ stackPos s.sp) :
    ∃ t, execPushall s = .next t ∧ PushedRegs s t ∧ t.pc = s.pc + 4 ∧ KeepsRegs [] s t ∧
      t.flags = s.flags ∧ KeepsRest s t := by
  obtain ⟨u, hpush, hwords, hpc, hregs, hflags, hrest⟩ := pushAll_pushes hroom
  refine ⟨u.advance, ?_, hwords, congrArg (· + 4) hpc, hregs, hflags, hrest⟩
  rw [execPushall, hpush, orRaise_ok, finish_eq]

theorem execPushall_faults (h : stackPos s.sp < 32) :
    execPushall s = .fault (.stackOverflow s.sp) := by
  rw [execPushall, pushAll, if_pos h, orRaise_error]

/-- POPALL's pops with sixteen words below the top of memory (45 R283). -/
theorem popAll_pops (hroom : stackPos s.sp + 32 ≤ 65536) :
    ∃ t, popAll s = .ok t ∧ PoppedRegs s t ∧ t.pc = s.pc ∧ t.flags = s.flags ∧ KeepsRest s t := by
  have hfits : ¬ Config.memSize < stackPos s.sp + 32 := Nat.not_lt.mpr hroom
  refine ⟨_, if_neg hfits, ⟨fun i => ?words, ?memory, BitVec.toNat_ofNat _ _⟩, ?kept⟩
  case words =>
    rw [State.setSp_reg, State.reg_setRegs, Fin.getElem_fin, Vector.getElem_ofFn]
    exact holdsWord_readWord _ _
  case memory => simp [KeepsMem]
  case kept => simp [KeepsRest, KeepsSprite, KeepsEnv, KeepsOutput]

theorem execPopall_pops (hroom : stackPos s.sp + 32 ≤ 65536) :
    ∃ t, execPopall s = .next t ∧ PoppedRegs s t ∧ t.pc = s.pc + 4 ∧ t.flags = s.flags ∧
      KeepsRest s t := by
  obtain ⟨u, hpop, hwords, hpc, hflags, hrest⟩ := popAll_pops hroom
  refine ⟨u.advance, ?_, hwords, congrArg (· + 4) hpc, hflags, hrest⟩
  rw [execPopall, hpop, orRaise_ok, finish_eq]

theorem execPopall_faults (h : 65536 < stackPos s.sp + 32) :
    execPopall s = .fault (.stackUnderflow s.sp) := by
  rw [execPopall, popAll, memSize_eq, if_pos h, orRaise_error]

/-! ### A pop of all after a push of all -/

/-- The stack pointers from which a push of all registers stays above address 0 (93 I12). -/
theorem lt_stackPos_of_zero_or_lt {sp : Word} (h : sp = 0 ∨ 32 < sp.toNat) : 32 < stackPos sp := by
  unfold stackPos
  split <;> bv_omega

/-- The stack position after a push of all registers that stays above address 0 is sixteen words
down. -/
theorem PushedRegs.stackPos_sp (h : PushedRegs s t) (hroom : 32 < stackPos s.sp) :
    stackPos t.sp = stackPos s.sp - 32 := by
  obtain ⟨-, -, hsp⟩ := h
  have htop := (stackPos_bounds s.sp).2
  rw [Nat.mod_eq_of_lt (by omega)] at hsp
  have hne : t.sp ≠ 0 := by bv_omega
  rw [stackPos_of_ne hne, hsp]

/-- A pop of all registers with the stack a push of all left takes each register back, and sp. -/
theorem PushedRegs.popped (hpush : PushedRegs s t) (hroom : 32 < stackPos s.sp)
    (hsp : u.sp = t.sp) (hmem : KeepsMem t u) (hpop : PoppedRegs u r) :
    r.sp = s.sp ∧ ∀ i : Reg, r.reg i = s.reg i := by
  have hpos := hpush.stackPos_sp hroom
  obtain ⟨hstored, -, -⟩ := hpush
  obtain ⟨hread, -, hback⟩ := hpop
  rw [hsp, hpos] at hread hback
  refine ⟨BitVec.eq_of_toNat_eq ?_, fun i => ?_⟩
  · rw [hback, Nat.sub_add_cancel hroom.le, stackPos_mod]
  · have hplace : stackPos s.sp - 32 + 30 - 2 * i.val = stackPos s.sp - 2 * (i.val + 1) := by omega
    have hi := (hmem.holdsWord_iff _ _).mp (hread i)
    rw [hplace] at hi
    exact hi.unique (hstored i)

end Sys2Proof.Machine

/-- Settles O26: PUSH and PUSHF are one push, of the register and of the FLAGS word. -/
theorem pushInstructions : Obligations.PushInstructions := by
  refine ⟨decodesR_of_operationOf (op := 0xC0) fun _ => rfl,
    decodes_of_operationOf (op := 0xC4) fun _ => rfl,
    fun s x => ⟨pushThenFinish_pushes (s.reg x), fun h => ?_,
      fun h => ⟨pushThenFinish_faults _ h, pushThenFinish_faults _ h⟩⟩⟩
  obtain ⟨t, hnext, hword, hkept⟩ := pushThenFinish_pushes (flagsWord s.flags) h
  exact ⟨t, _, hnext, hword, (flagsWord_toNat _).trans (flagsByte_toNat _), hkept⟩

/-- Settles O27: POP pops into its register. -/
theorem popLoadsTheRegister : Obligations.PopLoadsTheRegister :=
  ⟨decodesR_of_operationOf (op := 0xC1) fun _ => rfl,
    fun _ x => ⟨execPop_loads x, execPop_faults x⟩⟩

/-- Settles O28: POPF takes the four bits of the popped word, which after PUSHF is the FLAGS word. -/
theorem popFlags : Obligations.PopFlags := by
  refine ⟨decodes_of_operationOf (op := 0xC5) fun _ => rfl,
    fun s => ⟨fun hzero htop => ?sets, execPopf_faults⟩, fun s t u h1 h2 hpushf hsp hmem => ?undoes⟩
  case sets =>
    obtain ⟨t, v, hnext, hword, hflags, hkept⟩ := execPopf_setsFlags hzero htop
    refine ⟨t, v, hnext, hword, ?_⟩
    rw [hflags]
    exact ⟨getLsbD_iff_bitAt v 1, getLsbD_iff_bitAt v 2, getLsbD_iff_bitAt v 6,
      getLsbD_iff_bitAt v 7, hkept⟩
  case undoes =>
    obtain ⟨t', hnext, hpush, -⟩ := pushThenFinish_pushes (flagsWord s.flags) h1
    obtain rfl : t' = t := Host.Outcome.next.inj (hnext.symm.trans hpushf)
    exact execPopf_undoes_pushf hpush h1 h2 hsp hmem

/-- Settles O29: the registers are written downward in order, and sixteen words fit unless sp is 1 to
0x1F. -/
theorem pushAllLayout : Obligations.PushAllLayout := by
  refine ⟨decodes_of_operationOf (op := 0xC2) fun _ => rfl,
    fun s => ⟨fun hs => ?pushes, fun hlow hhigh => ?overflows⟩⟩
  case pushes =>
    have hroom : ¬ stackPos s.sp < 32 := by
      rw [stackPos_lt_pushAll_iff]
      bv_omega
    obtain ⟨t, hnext, ⟨hwords, hbytes, hsp⟩, hkept⟩ := execPushall_pushes (Nat.not_lt.mp hroom)
    exact ⟨t, hnext, hwords, hbytes, hsp, hkept⟩
  case overflows => exact execPushall_faults ((stackPos_lt_pushAll_iff s.sp).mpr ⟨hlow, hhigh⟩)

/-- Settles O30: the registers are read upward in reverse order, and sixteen words lie in memory unless
sp is 0 or above 0xFFE0. -/
theorem popAllLayout : Obligations.PopAllLayout := by
  refine ⟨decodes_of_operationOf (op := 0xC3) fun _ => rfl,
    fun s => ⟨fun hzero htop => ?pops, fun hs => ?underflows⟩⟩
  case pops =>
    have hroom : ¬ 65536 < stackPos s.sp + 32 := by
      rw [lt_stackPos_add_popAll_iff]
      exact not_or.mpr ⟨hzero, Nat.not_lt.mpr htop⟩
    obtain ⟨t, hnext, ⟨hwords, hmem, hsp⟩, hkept⟩ := execPopall_pops (Nat.not_lt.mp hroom)
    rw [stackPos_of_ne hzero] at hwords hsp
    exact ⟨t, hnext, hwords, hmem, hsp, hkept⟩
  case underflows => exact execPopall_faults ((lt_stackPos_add_popAll_iff s.sp).mpr hs)

/-- Settles O31: POPALL pops the sixteen words that PUSHALL pushed. -/
theorem pushAllThenPopAll : Obligations.PushAllThenPopAll := by
  intro s t u hs hpushall hsp hmem
  have hroom := lt_stackPos_of_zero_or_lt hs
  obtain ⟨t', hnext, hpush, -⟩ := execPushall_pushes hroom.le
  obtain rfl : t' = t := Host.Outcome.next.inj (hnext.symm.trans hpushall)
  have hpoppable : stackPos u.sp + 32 ≤ 65536 := by
    rw [hsp, hpush.stackPos_sp hroom, Nat.sub_add_cancel hroom.le]
    exact (stackPos_bounds s.sp).2
  obtain ⟨v, hpopall, hpop, -⟩ := execPopall_pops hpoppable
  exact ⟨v, hpopall, hpush.popped hroom hsp hmem hpop⟩
end

section
/-! SUPPORT. The peripheral and miscellaneous instructions: the formats K, S and F, what an instruction
that only makes calls keeps, the tones, the palette table and the random draw (46 R300 to R321). -/

open Sys2Proof Sys2Proof.Machine

namespace Sys2Proof

/-- An arm of format K (30 R108). -/
theorem decodesK_of_operationOf {op : Byte} {f : Nibble → Instr}
    (harm : ∀ w, operationOf op w = some (f (nibField w 0))) : DecodesK op.toNat f :=
  decodes_of_operationOf fun w => by
    rw [harm, nibAt_eq_nibField w 0]

/-- An arm of format S (30 R113). -/
theorem decodesS_of_operationOf {op : Byte}
    {f : Nibble → Nibble → Nibble → Nibble → Nibble → Nibble → Instr}
    (harm : ∀ w, operationOf op w = some (f (nibField w 20) (nibField w 16) (nibField w 12)
      (nibField w 8) (nibField w 4) (nibField w 0))) : DecodesS op.toNat f :=
  decodes_of_operationOf fun w => by
    rw [harm, nibAt_eq_nibField w 20, nibAt_eq_nibField w 16, nibAt_eq_nibField w 12,
      nibAt_eq_nibField w 8, nibAt_eq_nibField w 4, nibAt_eq_nibField w 0]

/-- The FLIP that w[1:0] selects (30 R114). -/
theorem decodesF_decodeFlip (n : BitVec 2) : DecodesF 0x08 n.toNat (decodeFlip n) := by
  intro w hop hn
  have hflip : Decodes 0x08 fun w => decodeFlip (w.extractLsb' 0 2) :=
    decodes_of_operationOf (op := 0x08) fun _ => rfl
  have hfield : w.extractLsb' 0 2 = n :=
    BitVec.eq_of_toNat_eq ((bitsAt_eq_extract w 1 0).symm.trans hn)
  rw [← hfield]
  exact hflip w hop

end Sys2Proof

namespace Sys2Proof.Machine

/-! ### Instructions that only make calls -/

/-- Exactly the calls cs are delivered and pc goes to next_pc; all else is unchanged. -/
def OnlyEmits (cs : List Call) (s t : State) : Prop :=
  Emits cs s t ∧ KeepsCpu s t ∧ KeepsSprite s t ∧ KeepsEnv s t ∧ t.rng = s.rng

theorem keepsCpu_advance (s : State) : KeepsCpu s s.advance :=
  ⟨fun _ _ => rfl, rfl, rfl, fun _ => rfl, rfl⟩

theorem emitAll_onlyEmits (s : State) (cs : List Call) :
    OnlyEmits cs s (s.emitAll cs).advance := by
  obtain ⟨hsprite, henv, hrng, -⟩ := keepsRest_refl s
  exact ⟨⟨rfl, rfl⟩, keepsCpu_advance s, hsprite, henv, hrng⟩

/-- One call, then next_pc (60 R418). -/
theorem emitResult_onlyEmits (s : State) (c : Call) :
    ∃ t, emitResult s c = .next t ∧ OnlyEmits [c] s t :=
  ⟨_, emitResult_eq s c, emitAll_onlyEmits s [c]⟩

/-! ### Peripheral registers -/

theorem execBgc_sets (s : State) (n : Nibble) :
    ∃ t, execBgc n s = .next t ∧ t.bgc.toNat = n.toNat ∧ Emits [.setBackground n] s t ∧
      KeepsCpu s t ∧ t.sprW = s.sprW ∧ t.sprH = s.sprH ∧ t.hflip = s.hflip ∧ t.vflip = s.vflip ∧
      KeepsEnv s t ∧ t.rng = s.rng := by
  obtain ⟨⟨-, hw, hh, hflip, hvflip⟩, henv, hrng, -⟩ := keepsRest_refl s
  exact ⟨_, emitResult_eq _ _, BitVec.toNat_setWidth_of_le (by decide), ⟨rfl, rfl⟩,
    keepsCpu_advance s, hw, hh, hflip, hvflip, henv, hrng⟩

/-- The width is the low byte of SPR's immediate (46 R301). -/
theorem toNat_sprWidthOf (imm : Word) : (sprWidthOf imm).toNat = imm.toNat % 256 :=
  BitVec.extractLsb'_toNat _ _ _

/-- The height is the high byte of SPR's immediate (46 R301). -/
theorem toNat_sprHeightOf (imm : Word) : (sprHeightOf imm).toNat = imm.toNat / 256 := by
  have himm := imm.isLt
  rw [sprHeightOf, BitVec.extractLsb'_toNat, Nat.shiftRight_eq_div_pow]
  omega

theorem execSpr_sets (s : State) (imm : Word) :
    ∃ t, execSpr imm s = .next t ∧ t.sprW.toNat = imm.toNat % 256 ∧
      t.sprH.toNat = imm.toNat / 256 ∧ KeepsOutput s t ∧ KeepsCpu s t ∧ t.bgc = s.bgc ∧
      t.hflip = s.hflip ∧ t.vflip = s.vflip ∧ KeepsEnv s t ∧ t.rng = s.rng := by
  obtain ⟨⟨hbgc, -, -, hflip, hvflip⟩, henv, hrng, houtput⟩ := keepsRest_refl s
  exact ⟨_, finish_eq _, toNat_sprWidthOf imm, toNat_sprHeightOf imm, houtput, keepsCpu_advance s,
    hbgc, hflip, hvflip, henv, hrng⟩

/-- The form of the four FLIP instructions (46 R304 to R307). -/
theorem flipResult_sets (s : State) (h v : Bool) :
    ∃ t, finish (s.setFlip h v) = .next t ∧ t.hflip = h ∧ t.vflip = v ∧ KeepsOutput s t ∧
      KeepsCpu s t ∧ t.bgc = s.bgc ∧ t.sprW = s.sprW ∧ t.sprH = s.sprH ∧ KeepsEnv s t ∧
      t.rng = s.rng := by
  obtain ⟨⟨hbgc, hw, hh, -, -⟩, henv, hrng, houtput⟩ := keepsRest_refl s
  exact ⟨_, finish_eq _, rfl, rfl, houtput, keepsCpu_advance s, hbgc, hw, hh, henv, hrng⟩

/-! ### Tones -/

/-- SNP with a word in memory at x[X] (46 R316). -/
theorem execSnp_emits {s : State} {x : Reg} (imm : Word) (h : s.reg x ≠ 0xFFFF) :
    ∃ t f, execSnp x imm s = .next t ∧ HoldsWord s.mem (s.reg x).toNat f ∧
      OnlyEmits [toneCall s f imm] s t := by
  obtain ⟨t, hnext, hemits⟩ :=
    emitResult_onlyEmits s (toneCall s (readWord s.mem (s.reg x).toNat) imm)
  refine ⟨t, _, ?_, holdsWord_readWord s.mem _, hemits⟩
  rw [execSnp, memRead2_of_ne s h, orRaise_ok, hnext]

theorem execSnp_faults {s : State} {x : Reg} (imm : Word) (h : s.reg x = 0xFFFF) :
    execSnp x imm s = .fault (.outOfBounds (s.reg x) 2) := by
  rw [execSnp, memRead2_of_eq s h, orRaise_error]

/-! ### The palette table -/

/-- A call that `LoadPalette` makes carries the three bytes of its slot as 0xRRGGBB (46 R308). -/
theorem paletteCall_eq (m : Memory) (a k : Nat) :
    ∃ rgb, paletteCall m a k = .setPalette (BitVec.ofNat 4 k) rgb ∧
      rgb.toNat = (readByte m (a + 3 * k)).toNat * 65536 +
        (readByte m (a + 3 * k + 1)).toNat * 256 + (readByte m (a + 3 * k + 2)).toNat := by
  refine ⟨_, rfl, ?_⟩
  rw [BitVec.toNat_append, ← Nat.shiftLeft_add_eq_or_of_lt (BitVec.isLt _), Nat.shiftLeft_eq,
    ← readWord, readWord_toNat]
  omega

theorem loadPalette_ok (s : State) {a : Word} (h : a.toNat ≤ 0xFFD0) :
    loadPalette s a = .ok (s.emitAll ((List.range 16).map (paletteCall s.mem a.toNat))) :=
  if_pos ((inBounds_iff a 48).mpr (by omega))

theorem loadPalette_error (s : State) {a : Word} (h : 0xFFD0 < a.toNat) :
    loadPalette s a = .error (.outOfBounds a 48) := by
  rw [loadPalette, inBounds_eq_false a 48 (by omega)]
  exact if_neg Bool.false_ne_true

/-- `LoadPalette(a)` of a table that fits: one call a slot, in slot order (46 R308). -/
theorem paletteResult_emits (s : State) {a : Word} (h : a.toNat ≤ 0xFFD0) :
    ∃ t cs, orRaise (loadPalette s a) finish = .next t ∧ cs.length = 16 ∧ Emits cs s t ∧
      (∀ k < 16, ∃ rgb, cs[k]? = some (.setPalette (BitVec.ofNat 4 k) rgb) ∧
        rgb.toNat = (readByte s.mem (a.toNat + 3 * k)).toNat * 65536 +
          (readByte s.mem (a.toNat + 3 * k + 1)).toNat * 256 +
          (readByte s.mem (a.toNat + 3 * k + 2)).toNat) ∧
      KeepsCpu s t ∧ KeepsSprite s t ∧ KeepsEnv s t ∧ t.rng = s.rng := by
  obtain ⟨hemits, hkept⟩ :=
    emitAll_onlyEmits s ((List.range 16).map (paletteCall s.mem a.toNat))
  refine ⟨_, _, ?_, ?_, hemits, fun k hk => ?_, hkept⟩
  · rw [loadPalette_ok s h, orRaise_ok, finish_eq]
  · rw [List.length_map, List.length_range]
  · obtain ⟨rgb, hcall, hrgb⟩ := paletteCall_eq s.mem a.toNat k
    refine ⟨rgb, ?_, hrgb⟩
    rw [List.getElem?_map, List.getElem?_range hk, Option.map_some, hcall]

/-- `LoadPalette(a)` of a table that leaves memory (46 R308). -/
theorem paletteResult_faults (s : State) {a : Word} (h : 0xFFD0 < a.toNat) :
    orRaise (loadPalette s a) finish = .fault (.outOfBounds a 48) := by
  rw [loadPalette_error s h, orRaise_error]

end Sys2Proof.Machine

/-- Settles O36: both forms load the palette, from the immediate or from the address register. -/
theorem paletteInstructions : Obligations.PaletteInstructions := by
  refine ⟨decodesA_of_operationOf (op := 0xD0) fun _ => rfl,
    decodesR_of_operationOf (op := 0xD1) fun _ => rfl, fun s x imm => ?_⟩
  simp only [List.forall_mem_cons, List.not_mem_nil, false_implies, implies_true, and_true]
  exact ⟨⟨paletteResult_emits s, paletteResult_faults s⟩,
    ⟨paletteResult_emits s, paletteResult_faults s⟩⟩

/-- Settles O37: a register result of the value drawn, on the state with rng advanced. -/
theorem randomValueWithinTheBound : Obligations.RandomValueWithinTheBound := by
  refine ⟨decodesRI_of_operationOf (op := 0x07) fun _ => rfl, fun s x imm => ?_⟩
  obtain ⟨t, hnext, hvalue, hflags, hpc, hregs, hsp, hmem, hsprite, henv, hrng, houtput⟩ :=
    regResult_writes (s.setRng (rngDraw s.rng imm).2) x (rngDraw s.rng imm).1
  refine ⟨t, hnext, ?_, ?_, hrng, hregs, hsp, hflags, hmem, hpc, hsprite, henv, houtput⟩
  · rw [hvalue, rngDraw_toNat]
  · rw [hvalue]
    exact rngDraw_le s.rng imm

/-- Settles O32: each of the six writes its registers and moves on; only BGC ends in a call. -/
theorem peripheralRegisterWrites : Obligations.PeripheralRegisterWrites := by
  refine ⟨decodesK_of_operationOf (op := 0x03) fun _ => rfl,
    decodesA_of_operationOf (op := 0x04) fun _ => rfl,
    decodesF_decodeFlip 0, decodesF_decodeFlip 1, decodesF_decodeFlip 2, decodesF_decodeFlip 3,
    fun s n imm => ⟨execBgc_sets s n, execSpr_sets s imm, ?_⟩⟩
  simp only [List.forall_mem_cons, List.not_mem_nil, false_implies, implies_true, and_true]
  exact ⟨flipResult_sets s false false, flipResult_sets s false true, flipResult_sets s true false,
    flipResult_sets s true true⟩

/-- Settles O33: both forms end in one draw call, which carries the sprite registers. -/
theorem drawInstructionsMakeOneCall : Obligations.DrawInstructionsMakeOneCall :=
  ⟨decodesRRA_of_operationOf (op := 0x05) fun _ => rfl,
    decodesRRR_of_operationOf (op := 0x06) fun _ => rfl,
    fun s x y z imm =>
      ⟨emitResult_onlyEmits s (drawCall s imm (s.reg x) (s.reg y)),
        emitResult_onlyEmits s (drawCall s (s.reg z) (s.reg x) (s.reg y))⟩⟩

/-- Settles O34: each form ends in one tone, SNP's after a word read. -/
theorem toneInstructions : Obligations.ToneInstructions := by
  refine ⟨decodes_of_operationOf (op := 0x09) fun _ => rfl,
    decodesA_of_operationOf (op := 0x0A) fun _ => rfl,
    decodesA_of_operationOf (op := 0x0B) fun _ => rfl,
    decodesA_of_operationOf (op := 0x0C) fun _ => rfl,
    decodesRI_of_operationOf (op := 0x0D) fun _ => rfl,
    fun s x imm => ⟨?_, execSnp_emits imm, execSnp_faults imm⟩⟩
  simp only [List.forall_mem_cons, List.not_mem_nil, false_implies, implies_true, and_true]
  exact ⟨emitResult_onlyEmits s (toneCall s 0 0), emitResult_onlyEmits s (toneCall s 500 imm),
    emitResult_onlyEmits s (toneCall s 1000 imm), emitResult_onlyEmits s (toneCall s 1500 imm)⟩

/-- Settles O35: SNG writes the envelope alone and ends in one tone that carries it. -/
theorem envelopeInstruction : Obligations.EnvelopeInstruction := by
  refine ⟨decodesS_of_operationOf (op := 0x0E) fun _ => rfl, fun s a d _ _ sus rel => ?_⟩
  obtain ⟨hsprite, -, hrng, -⟩ := keepsRest_refl s
  exact ⟨_, emitResult_eq (s.setEnv a d sus rel) _, rfl, rfl, rfl, rfl, ⟨rfl, rfl⟩,
    keepsCpu_advance s, hsprite, hrng⟩

/-- Settles O38: NOP only moves on, CLS ends in one call, and VBLNK's call comes with the outcome
Yield. -/
theorem nopClsVblnk : Obligations.NopClsVblnk := by
  refine ⟨decodes_of_operationOf (op := 0x00) fun _ => rfl,
    decodes_of_operationOf (op := 0x01) fun _ => rfl,
    decodes_of_operationOf (op := 0x02) fun _ => rfl,
    fun s => ⟨finish_onlyPc s, emitResult_onlyEmits s .clearScreen, ?vblnk⟩⟩
  case vblnk =>
    obtain ⟨hsprite, henv, hrng, -⟩ := keepsRest_refl s
    exact ⟨_, finish_eq _, rfl, rfl, keepsCpu_advance s, hsprite, henv, hrng⟩
end

section
/-! SUPPORT. The step: the word it fetches and decodes, and the faults of fetch and decode before any
instruction runs (60 R401, R409). -/

open Sys2Proof Sys2Proof.Machine

namespace Sys2Proof.Machine

variable {s t : State} {w : InstrWord} {i : Instr}

/-! ### The word fetched -/

/-- A fetch that answers gives the word at pc (20 R76). -/
theorem fetch_inv (h : fetch s = .ok w) : w = readQuad s.mem s.pc.toNat := by
  by_cases hpc : s.pc.toNat + 4 ≤ 65536
  · exact (Except.ok.inj ((memRead4_ok s s.pc hpc).symm.trans h)).symm
  · nomatch (memRead4_error s s.pc (Nat.lt_of_not_le hpc)).symm.trans h

/-- The word at an address is its four bytes, the first one on top (20 R71). -/
theorem readQuad_eq_wordOfBytes (m : Memory) (a : Nat) :
    readQuad m a =
      wordOfBytes (readByte m a) (readByte m (a + 1)) (readByte m (a + 2)) (readByte m (a + 3)) := by
  rw [wordOfBytes, BitVec.append_assoc (x₁ := readByte m a ++ readByte m (a + 1)), BitVec.cast_eq]
  rfl

/-- The opcode byte of the word at an address is the byte at the address (30 R100). -/
theorem opcodeField_readQuad (m : Memory) (a : Nat) : opcodeField (readQuad m a) = readByte m a := by
  have hlow := (readWord m (a + 2)).isLt
  have hnext := (readByte m (a + 1)).isLt
  have htop := (readByte m a).isLt
  apply BitVec.eq_of_toNat_eq
  rw [← bitsAt_opcode, bitsAt, readQuad_toNat, readWord_toNat m a]
  omega

/-- Only the opcode of VBLNK decodes to VBLNK. -/
theorem decodeWord_eq_vblnk_iff : decodeWord w = .ok .vblnk ↔ opcodeField w = 0x02 :=
  decodeWord_eq_ok_iff.trans encN_eq_masked_iff

/-! ### The step, by what stands at pc -/

theorem step_of_unfetchable (h : 65536 < s.pc.toNat + 4) :
    step s = .fault (.outOfBounds s.pc 4) := by
  have hf : fetch s = .error (.outOfBounds s.pc 4) := memRead4_error s s.pc h
  simp [step, hf, raise]

theorem step_of_unassigned (hpc : s.pc.toNat + 4 ≤ 65536)
    (h : Unassigned (readByte s.mem s.pc.toNat).toNat) :
    step s = .fault (.unknownOpcode (readByte s.mem s.pc.toNat)) := by
  have hf : fetch s = .ok (readQuad s.mem s.pc.toNat) := memRead4_ok s s.pc hpc
  rw [← opcodeField_readQuad, ← bitsAt_opcode] at h
  simp [step, hf, decodeWord_of_unassigned h, raise, opcodeField_readQuad]

theorem step_of_readQuad (hpc : s.pc.toNat + 4 ≤ 65536)
    (h : decodeWord (readQuad s.mem s.pc.toNat) = .ok i) : step s = exec i s.beginStep :=
  step_of_decode (memRead4_ok s s.pc hpc) h

theorem step_of_assigned (hpc : s.pc.toNat + 4 ≤ 65536)
    (h : ¬ Unassigned (readByte s.mem s.pc.toNat).toNat) :
    ∃ i, decodeWord (readQuad s.mem s.pc.toNat) = .ok i ∧ step s = exec i s.beginStep := by
  rw [← opcodeField_readQuad, ← bitsAt_opcode] at h
  obtain ⟨i, hi⟩ := exists_decodeWord_of_assigned h
  exact ⟨i, hi, step_of_readQuad hpc hi⟩

/-! ### The host's step -/

theorem returned_ne_fault (r : StepResult) (f : Fault) : r.returned ≠ .fault f := by
  cases r <;> nofun

/-- The host's step returns a fault only when the step faults, and hands back the state it was given. -/
theorem hostStep_fault_inv {c d : CoreState} {f : Fault} {cs : List Call}
    (h : hostStep c = .ok (d, .fault f, cs)) : step c.begin = .fault f ∧ d = c ∧ cs = [] := by
  cases hs : step c.begin with
  | next t =>
    rw [hostStep_of_next hs] at h
    simp [returned_ne_fault] at h
  | fault g =>
    rw [hostStep_of_fault hs] at h
    cases h
    exact ⟨rfl, rfl, rfl⟩
  | refused r => simp [hostStep, hs] at h

end Sys2Proof.Machine

/-- Settles O40: a word that can be fetched decodes exactly when the byte at pc is assigned. -/
theorem stepFaultPriority : Obligations.StepFaultPriority :=
  fun _ => ⟨step_of_unfetchable, step_of_unassigned, step_of_assigned⟩

/-- Settles O39: the four bytes at pc are the word fetched. -/
theorem stepRunsTheDecodedInstruction : Obligations.StepRunsTheDecodedInstruction := by
  intro s i hpc _ hi
  rw [← readQuad_eq_wordOfBytes] at hi
  exact step_of_readQuad hpc hi

/-- Settles O43: the state after the fault is the one the step began with, so the same step follows. -/
theorem faultChangesNothingAndRepeats : Obligations.FaultChangesNothingAndRepeats := by
  intro c d f cs h
  obtain ⟨hs, rfl, rfl⟩ := hostStep_fault_inv h
  exact ⟨rfl, rfl, hostStep_of_fault hs⟩
end

section
/-! SUPPORT. How an instruction can end: in a next state or in a fault of its class (60 R408), and never
refused. -/

open Sys2Proof Sys2Proof.Machine

namespace Sys2Proof.Machine

/-! ### The fault of each shared operation -/

section
variable {s : State} {a v : Word} {f : Fault}

/-- A check raises its own fault and no other. -/
theorem fault_of_check {α : Type} {c : Prop} {_ : Decidable c} {x : α} {g : Fault}
    (h : (if c then .error g else .ok x) = Except.error f) : f = g := by
  obtain ⟨-, h⟩ | ⟨-, h⟩ := ite_eq_iff.mp h
  · exact (Except.error.inj h).symm
  · nomatch h

/-- An access raises OutOfBounds at its own address and width (60 R404). -/
theorem fault_of_access {α : Type} {n : Nat} {x : α}
    (h : (if inBounds a n then .ok x else .error (.outOfBounds a n)) = Except.error f) :
    f = .outOfBounds a n := by
  rw [← ite_not] at h
  exact fault_of_check h

theorem memRead2_fault (h : memRead2 s a = .error f) : f = .outOfBounds a 2 := fault_of_access h

theorem memWrite2_fault (h : memWrite2 s a v = .error f) : f = .outOfBounds a 2 := fault_of_access h

theorem loadPalette_fault (h : loadPalette s a = .error f) : f = .outOfBounds a 48 :=
  fault_of_access h

theorem divChecked_fault {b : Word} {o : AluOut} (h : divChecked b o = .error f) :
    f = .divisionByZero := fault_of_check h

theorem push_fault (h : push s v = .error f) : f = .stackOverflow s.sp := fault_of_check h

theorem pushAll_fault (h : pushAll s = .error f) : f = .stackOverflow s.sp := fault_of_check h

theorem pop_fault (h : pop s = .error f) : f = .stackUnderflow s.sp := fault_of_check h

theorem popAll_fault (h : popAll s = .error f) : f = .stackUnderflow s.sp := fault_of_check h
end

/-! ### Next, or a fault of the class -/

/-- The faults the table of 60 R408 gives the class of i, sp being its value before the instruction. -/
def FaultOfClass (i : Instr) (sp : Word) (f : Fault) : Prop :=
  (∃ a, accessesWord i = true ∧ f = .outOfBounds a 2) ∨
  (∃ a, accessesPalette i = true ∧ f = .outOfBounds a 48) ∨
  (divides i = true ∧ f = .divisionByZero) ∨
  (pushes i = true ∧ f = .stackOverflow sp) ∨
  (pops i = true ∧ f = .stackUnderflow sp)

/-- An outcome that is a next state or a fault that i may raise. -/
def EndsWithin (i : Instr) (sp : Word) (o : StepOutcome) : Prop :=
  (∃ t, o = .next t) ∨ ∃ f, o = .fault f ∧ FaultOfClass i sp f

variable {i : Instr} {sp : Word} {s : State}

theorem endsWithin_next (t : State) : EndsWithin i sp (.next t) := .inl ⟨t, rfl⟩

/-- An operation that raises what i may raise, followed by what always answers. -/
theorem endsWithin_orRaise {α : Type} {e : Except Fault α} {k : α → StepOutcome}
    (he : ∀ f, e = .error f → FaultOfClass i sp f) (hk : ∀ v, ∃ t, k v = .next t) :
    EndsWithin i sp (orRaise e k) := by
  cases e with
  | ok v => exact .inl (hk v)
  | error f => exact .inr ⟨f, rfl, he f rfl⟩

theorem endsWithin_ite {c : Prop} {_ : Decidable c} {o o' : StepOutcome} (h : EndsWithin i sp o)
    (h' : EndsWithin i sp o') : EndsWithin i sp (if c then o else o') := by
  split
  · exact h
  · exact h'

theorem endsWithin_memRead2 {a : Word} {k : Word → StepOutcome} (hi : accessesWord i = true)
    (hk : ∀ v, ∃ t, k v = .next t) : EndsWithin i sp (orRaise (memRead2 s a) k) :=
  endsWithin_orRaise (fun _ h => .inl ⟨a, hi, memRead2_fault h⟩) hk

theorem endsWithin_storeResult {a v : Word} (hi : accessesWord i = true) :
    EndsWithin i sp (storeResult s a v) :=
  endsWithin_orRaise (fun _ h => .inl ⟨a, hi, memWrite2_fault h⟩) fun _ => ⟨_, rfl⟩

theorem endsWithin_loadPalette {a : Word} (hi : accessesPalette i = true) :
    EndsWithin i sp (orRaise (loadPalette s a) finish) :=
  endsWithin_orRaise (fun _ h => .inr (.inl ⟨a, hi, loadPalette_fault h⟩)) fun _ => ⟨_, rfl⟩

theorem endsWithin_divResult {d : Reg} {b : Word} {o : AluOut} (hi : divides i = true) :
    EndsWithin i sp (divResult s d (divChecked b o)) :=
  endsWithin_orRaise (fun _ h => .inr (.inr (.inl ⟨hi, divChecked_fault h⟩))) fun _ => ⟨_, rfl⟩

theorem faultOfClass_push (hi : pushes i = true) : FaultOfClass i sp (.stackOverflow sp) :=
  .inr (.inr (.inr (.inl ⟨hi, rfl⟩)))

theorem faultOfClass_pop (hi : pops i = true) : FaultOfClass i sp (.stackUnderflow sp) :=
  .inr (.inr (.inr (.inr ⟨hi, rfl⟩)))

theorem endsWithin_push {v : Word} {k : State → StepOutcome} (hi : pushes i = true)
    (hk : ∀ u, ∃ t, k u = .next t) : EndsWithin i s.sp (orRaise (push s v) k) :=
  endsWithin_orRaise (fun _ h => push_fault h ▸ faultOfClass_push hi) hk

theorem endsWithin_pop {k : Word × State → StepOutcome} (hi : pops i = true)
    (hk : ∀ r, ∃ t, k r = .next t) : EndsWithin i s.sp (orRaise (pop s) k) :=
  endsWithin_orRaise (fun _ h => pop_fault h ▸ faultOfClass_pop hi) hk

/-! ### Every instruction -/

/-- Every instruction ends in a next state or in a fault of its class (60 R408). -/
theorem exec_endsWithin (i : Instr) (s : State) : EndsWithin i s.sp (exec i s) := by
  cases i with
  | ldm0 | ldm1 | snp => exact endsWithin_memRead2 rfl fun _ => ⟨_, rfl⟩
  | stm0 | stm1 => exact endsWithin_storeResult rfl
  | pal0 | pal1 => exact endsWithin_loadPalette rfl
  | divi | div0 | div1 | modi | mod0 | mod1 | remi | rem0 | rem1 => exact endsWithin_divResult rfl
  | push | pushf | call0 | call1 => exact endsWithin_push rfl fun _ => ⟨_, rfl⟩
  | cx => exact endsWithin_ite (endsWithin_push rfl fun _ => ⟨_, rfl⟩) (endsWithin_next _)
  | pushall =>
    exact endsWithin_orRaise (fun _ h => pushAll_fault h ▸ faultOfClass_push rfl) fun _ => ⟨_, rfl⟩
  | pop | popf | ret => exact endsWithin_pop rfl fun _ => ⟨_, rfl⟩
  | popall =>
    exact endsWithin_orRaise (fun _ h => popAll_fault h ▸ faultOfClass_pop rfl) fun _ => ⟨_, rfl⟩
  | jmc | jx | jme => exact endsWithin_ite (endsWithin_next _) (endsWithin_next _)
  | nop | cls | vblnk | bgc | spr | drw0 | drw1 | rnd | flip0 | flip1 | flip2 | flip3
  | snd0 | snd1 | snd2 | snd3 | sng | jmp0 | jmp1 | ldi0 | ldi1 | mov
  | addi | add0 | add1 | subi | sub0 | sub1 | cmpi | cmp | muli | mul0 | mul1
  | andi | and0 | and1 | tsti | tst | ori | or0 | or1 | xori | xor0 | xor1
  | noti | not0 | not1 | negi | neg0 | neg1 | shli | shri | sari | shl0 | shr0 | sar0 =>
    exact endsWithin_next _

theorem exec_fault {f : Fault} (h : exec i s = .fault f) : FaultOfClass i s.sp f := by
  obtain ⟨t, ht⟩ | ⟨g, hg, hclass⟩ := exec_endsWithin i s
  · nomatch h.symm.trans ht
  · obtain rfl := Host.Outcome.fault.inj (h.symm.trans hg)
    exact hclass

theorem exec_ne_refused (i : Instr) (s : State) (r : Refusal) : exec i s ≠ .refused r := by
  intro h
  obtain ⟨t, ht⟩ | ⟨f, hf, -⟩ := exec_endsWithin i s
  · nomatch h.symm.trans ht
  · nomatch h.symm.trans hf

/-- Fetch and decode raise faults only, and the instruction is never refused. -/
theorem step_ne_refused (s : State) (r : Refusal) : step s ≠ .refused r := by
  intro h
  by_cases hpc : s.pc.toNat + 4 ≤ 65536
  · by_cases hop : Unassigned (readByte s.mem s.pc.toNat).toNat
    · nomatch (step_of_unassigned hpc hop).symm.trans h
    · obtain ⟨i, -, hi⟩ := step_of_assigned hpc hop
      exact exec_ne_refused i _ r (hi.symm.trans h)
  · nomatch (step_of_unfetchable (Nat.lt_of_not_le hpc)).symm.trans h

end Sys2Proof.Machine

/-- Settles O42: each instruction ends in a next state or in a fault of its class. -/
theorem faultsOfEachInstruction : Obligations.FaultsOfEachInstruction :=
  ⟨fun _ _ _ h => exec_fault h, fun s i r => exec_ne_refused i s r, step_ne_refused⟩
end

section
/-! SUPPORT. The model's own output records (logs 1 and 2): no instruction reads them, only VBLNK writes the
outcome, and only the callers of 60 R417 add calls. -/

open Sys2Proof Sys2Proof.Machine

namespace Sys2Proof.Machine

/-! ### Other records -/

/-- The state with its two output records changed. -/
def State.rerecorded (ρ : StepResult → StepResult) (κ : List Call → List Call) (s : State) : State :=
  { s with result := ρ s.result, calls := κ s.calls }

variable (ρ : StepResult → StepResult) (κ : List Call → List Call) {i : Instr} {s t : State}

/-! The shared operations that give a state, on a state with other records. -/

theorem memWrite2_rerecorded (s : State) (a v : Word) :
    memWrite2 (s.rerecorded ρ κ) a v = (memWrite2 s a v).map (State.rerecorded ρ κ) := by
  unfold memWrite2; split <;> rfl

theorem loadPalette_rerecorded (s : State) (a : Word) :
    loadPalette (s.rerecorded ρ id) a = (loadPalette s a).map (State.rerecorded ρ id) := by
  unfold loadPalette; split <;> rfl

theorem push_rerecorded (s : State) (v : Word) :
    push (s.rerecorded ρ κ) v = (push s v).map (State.rerecorded ρ κ) :=
  map_check rfl

theorem pop_rerecorded (s : State) :
    pop (s.rerecorded ρ κ) = (pop s).map (Prod.map id (State.rerecorded ρ κ)) :=
  map_check rfl

theorem pushAll_rerecorded (s : State) :
    pushAll (s.rerecorded ρ κ) = (pushAll s).map (State.rerecorded ρ κ) :=
  map_check rfl

theorem setRegs_setSp_rerecorded (s : State) (v : Vector Word 16) (w : Word) :
    ((s.rerecorded ρ κ).setRegs v).setSp w = ((s.setRegs v).setSp w).rerecorded ρ κ := rfl

theorem popAll_rerecorded (s : State) :
    popAll (s.rerecorded ρ κ) = (popAll s).map (State.rerecorded ρ κ) :=
  map_check (setRegs_setSp_rerecorded ρ κ s _ _)

theorem callTo_rerecorded (s : State) (a : Word) :
    callTo (s.rerecorded ρ κ) a = mapNext (State.rerecorded ρ κ) (callTo s a) :=
  orRaise_map (push_rerecorded ρ κ s _) fun _ => rfl

theorem setResult_eq_rerecorded (r : StepResult) :
    (State.setResult · r) = State.rerecorded (fun _ => r) id := rfl

/-- A record an instruction does not write may be any other: the outcome is the same with the change in
place. -/
theorem exec_rerecorded (s : State) (hρ : i = .vblnk → ρ = id) (hκ : makesCall i = true → κ = id) :
    exec i (s.rerecorded ρ κ) = mapNext (State.rerecorded ρ κ) (exec i s) := by
  cases i with
  | vblnk => obtain rfl := hρ rfl; obtain rfl := hκ rfl; rfl
  | bgc | drw0 | drw1 | cls | snd0 | snd1 | snd2 | snd3 | sng => obtain rfl := hκ rfl; rfl
  | snp => obtain rfl := hκ rfl; exact mapNext_orRaise fun _ => rfl
  | pal0 | pal1 =>
    obtain rfl := hκ rfl
    exact orRaise_map (loadPalette_rerecorded ρ s _) fun _ => rfl
  | stm0 | stm1 => exact orRaise_map (memWrite2_rerecorded ρ κ s _ _) fun _ => rfl
  | ldm0 | ldm1 | divi | div0 | div1 | modi | mod0 | mod1 | remi | rem0 | rem1 =>
    exact mapNext_orRaise fun _ => rfl
  | push | pushf => exact orRaise_map (push_rerecorded ρ κ s _) fun _ => rfl
  | pushall => exact orRaise_map (pushAll_rerecorded ρ κ s) fun _ => rfl
  | pop | popf | ret => exact orRaise_map (pop_rerecorded ρ κ s) fun _ => rfl
  | popall => exact orRaise_map (popAll_rerecorded ρ κ s) fun _ => rfl
  | call0 | call1 => exact callTo_rerecorded ρ κ s _
  | cx => exact mapNext_ite (callTo_rerecorded ρ κ s _) rfl
  | jmc | jx | jme => exact mapNext_ite rfl rfl
  | nop | spr | rnd | flip0 | flip1 | flip2 | flip3 | jmp0 | jmp1 | ldi0 | ldi1 | mov
  | addi | add0 | add1 | subi | sub0 | sub1 | cmpi | cmp | muli | mul0 | mul1
  | andi | and0 | and1 | tsti | tst | ori | or0 | or1 | xori | xor0 | xor1
  | noti | not0 | not1 | negi | neg0 | neg1 | shli | shri | sari | shl0 | shr0 | sar0 => rfl

/-! ### The outcome field -/

/-- What writing the outcome hides. -/
theorem mapNext_setResult_setResult (r q : StepResult) (o : StepOutcome) :
    mapNext (State.setResult · q) (mapNext (State.setResult · r) o) =
      mapNext (State.setResult · q) o := by
  cases o <;> rfl

/-- Only VBLNK writes the outcome: another instruction hands on whatever outcome it is given. -/
theorem exec_setResult (s : State) (r : StepResult) (hi : i ≠ .vblnk) :
    exec i (s.setResult r) = mapNext (State.setResult · r) (exec i s) := by
  rw [setResult_eq_rerecorded]
  exact exec_rerecorded (fun _ => r) id s (fun h => absurd h hi) fun _ => rfl

/-- From another outcome field every instruction has the same outcome up to that field. -/
theorem exec_upToResult (i : Instr) (s : State) (r q : StepResult) :
    mapNext (State.setResult · q) (exec i (s.setResult r)) =
      mapNext (State.setResult · q) (exec i s) := by
  by_cases hi : i = .vblnk
  · subst hi; rfl
  · rw [exec_setResult s r hi, mapNext_setResult_setResult]

theorem exec_result (hi : i ≠ .vblnk) (h : exec i s = .next t) : t.result = s.result := by
  have hkeep : exec i s = mapNext (State.setResult · s.result) (exec i s) :=
    exec_setResult s s.result hi
  rw [h, mapNext_next] at hkeep
  calc t.result
    _ = (t.setResult s.result).result := congrArg State.result (Host.Outcome.next.inj hkeep)
    _ = s.result := rfl

theorem execVblnk_result (h : exec .vblnk s = .next t) : t.result = .yield := by
  cases h; rfl

/-! ### The calls -/

/-- An instruction outside the callers of 60 R417 keeps the calls. -/
theorem exec_calls_eq (hi : makesCall i = false) (h : exec i s = .next t) : t.calls = s.calls := by
  have hkeep : exec i s = mapNext (State.rerecorded id fun _ => s.calls) (exec i s) :=
    exec_rerecorded id (fun _ => s.calls) s (fun _ => rfl) (by simp [hi])
  rw [h, mapNext_next] at hkeep
  calc t.calls
    _ = (t.rerecorded id fun _ => s.calls).calls :=
      congrArg State.calls (Host.Outcome.next.inj hkeep)
    _ = s.calls := rfl

/-- A caller adds at most the sixteen calls of a palette (60 R417). -/
theorem exec_calls_append (hi : makesCall i = true) (h : exec i s = .next t) :
    ∃ cs, t.calls = s.calls ++ cs ∧ cs.length ≤ 16 := by
  have hone (c : Call) : [c].length ≤ 16 := by simp
  cases i with
  | drw0 | drw1 | bgc | cls | snd0 | snd1 | snd2 | snd3 | sng | vblnk =>
    cases h; exact ⟨_, rfl, hone _⟩
  | snp =>
    obtain ⟨v, -, hv⟩ := orRaise_eq_next h
    cases hv; exact ⟨_, rfl, hone _⟩
  | pal0 | pal1 =>
    obtain ⟨u, hu, hf⟩ := orRaise_eq_next h
    obtain ⟨-, rfl⟩ := loadPalette_inv hu
    cases hf; exact ⟨_, rfl, by simp⟩
  | _ => nomatch hi

end Sys2Proof.Machine

/-- Settles O54: earlier calls and another outcome field pass through every instruction, and only a caller
adds calls. -/
theorem outputRecordsAreOnlyWritten : Obligations.OutputRecordsAreOnlyWritten := by
  refine ⟨fun s i cs => ?_, fun s i r q => exec_upToResult i s r q, fun s t i h => ?_⟩
  · exact exec_changed id id id cs s (fun _ => rfl) (fun _ => rfl) (fun _ => rfl)
  · cases hi : makesCall i with
    | false => exact ⟨[], by simp [exec_calls_eq hi h], by simp, fun _ => rfl⟩
    | true =>
      obtain ⟨cs, hcs, hle⟩ := exec_calls_append hi h
      exact ⟨cs, hcs, hle, fun hn => nomatch hn⟩

/-- Settles O41: VBLNK is the one instruction that writes the outcome, which is Ok at the start of a
step, and 0x02 the one opcode byte that decodes to it. -/
theorem yieldExactlyAfterVblnk : Obligations.YieldExactlyAfterVblnk := by
  intro s t h
  obtain ⟨w, i, hw, hd, hx⟩ := step_eq_next h
  have hbyte : i = .vblnk ↔ readByte s.mem s.pc.toNat = 0x02 := by
    rw [← opcodeField_readQuad, ← fetch_inv hw, ← decodeWord_eq_vblnk_iff, hd, Except.ok.injEq]
  have hresult : t.result = .yield ↔ i = .vblnk := by
    by_cases hi : i = .vblnk
    · subst hi; simp [execVblnk_result hx]
    · simp [hi, exec_result hi hx]
  rw [hresult, hbyte, ← BitVec.toNat_inj]
  rfl
end

section
/-! SUPPORT. The host's surface (70 R440 to R445): loading an image, the reset state, the registers, and the
model's own placing of an instruction (log 7). -/

open Sys2Proof Sys2Proof.Machine

namespace Sys2Proof.Machine

/-! ### Bytes written at rising addresses -/

theorem writeBytes_cons (m : Memory) (a : Nat) (b : Byte) (bs : List Byte) :
    writeBytes m a (b :: bs) = writeBytes (writeByte m a b) (a + 1) bs := rfl

/-- Bytes written from a change no byte below a or past the last of them. -/
theorem readByte_writeBytes_other (bs : List Byte) (m : Memory) (a p : Nat)
    (hp : p < a ∨ a + bs.length ≤ p) : readByte (writeBytes m a bs) p = readByte m p := by
  induction bs generalizing m a with
  | nil => rfl
  | cons b bs ih =>
    rw [List.length_cons] at hp
    rw [writeBytes_cons, ih _ _ (by omega), readByte_writeByte_other _ _ _ _ (by omega)]

/-- The byte of index k lies k above the first address. -/
theorem readByte_writeBytes_add (bs : List Byte) (m : Memory) (a k : Nat) (hk : k < bs.length) :
    readByte (writeBytes m a bs) (a + k) = bs[k] := by
  induction bs generalizing m a k with
  | nil => exact absurd hk (Nat.not_lt_zero k)
  | cons b bs ih =>
    rw [writeBytes_cons]
    cases k with
    | zero =>
      calc readByte (writeBytes (writeByte m a b) (a + 1) bs) a
        _ = readByte (writeByte m a b) a := readByte_writeBytes_other _ _ _ _ (by omega)
        _ = b := readByte_writeByte_same m a b
    | succ j =>
      have hplace : a + (j + 1) = a + 1 + j := by omega
      rw [hplace]
      exact ih _ _ j (Nat.lt_of_succ_lt_succ hk)

/-! ### Load -/

section
variable {c : CoreState} {address : Nat} {bytes : List Byte}

theorem hostLoad_of_overrun (h : 65536 < address + bytes.length) : hostLoad c address bytes = none :=
  if_pos h

theorem hostLoad_of_fits (h : address + bytes.length ≤ 65536) :
    hostLoad c address bytes = some { c with mem := writeBytes c.mem address bytes } :=
  if_neg (Nat.not_lt.mpr h)
end

/-! ### New and the reset state -/

theorem hostNew_memSize : hostNew 65536 = .ok State.reset.toCoreState := if_pos rfl

theorem hostNew_of_ne {n : Nat} (h : n ≠ 65536) : hostNew n = .error (.badMemorySize n) := if_neg h

/-- The invariant's base case. -/
theorem stateInv_reset : StateInv State.reset := ⟨wf_reset, by decide, by decide⟩

/-- At reset no byte is listed, so each reads the power-on value (10 R47). -/
theorem readByte_reset (a : Nat) : readByte State.reset.mem a = 0 := rfl

/-! ### The host's access to the registers -/

section
variable (c : CoreState) (v : Word)

theorem hostRegister_of_gt {index : Nat} (h : 15 < index) :
    hostRegister c index = .error (.badRegisterIndex index) := dif_neg (Nat.not_lt.mpr h)

theorem hostSetRegister_of_gt {index : Nat} (h : 15 < index) :
    hostSetRegister c index v = .error (.badRegisterIndex index) := dif_neg (Nat.not_lt.mpr h)

theorem hostRegister_val (x : Reg) : hostRegister c x.val = .ok c.regs[x] := dif_pos x.isLt

/-- The host writes a register as an instruction does, so the laws of `State.setReg` speak of it. -/
theorem hostSetRegister_val (x : Reg) :
    hostSetRegister c x.val v = .ok (c.begin.setReg x v).toCoreState := dif_pos x.isLt
end

/-! ### Placing an instruction -/

/-- A word can be fetched at the place chosen for it (20 R76). -/
theorem fetchPlace_fits (pc : Word) : (fetchPlace pc).toNat + 4 ≤ 65536 := by
  unfold fetchPlace
  split
  · next h => exact (inBounds_iff pc 4).mp h
  · decide

theorem fetchPlace_of_fits {pc : Word} (h : pc.toNat + 4 ≤ 65536) : fetchPlace pc = pc :=
  if_pos ((inBounds_iff pc 4).mpr h)

section
variable (s : State) (nbits w : Nat)

@[simp] theorem State.withFetchWord_pc : (s.withFetchWord nbits w).pc = fetchPlace s.pc := rfl

@[simp] theorem State.withFetchWord_mem : (s.withFetchWord nbits w).mem =
    writeQuad s.mem (fetchPlace s.pc).toNat (BitVec.ofNat 32 (w % 2 ^ nbits)) := rfl

/-- Besides memory and pc, placing an instruction changes nothing. -/
theorem State.withFetchWord_frame :
    { s.withFetchWord nbits w with mem := s.mem, pc := s.pc } = s := rfl

theorem withFetchWord_keepsMemOutside :
    KeepsMemOutside (s.withFetchWord nbits w).pc.toNat 4 s (s.withFetchWord nbits w) :=
  fun a ha => readByte_writeQuad_other s.mem _ a _ ha

/-- The word that stands at pc is the one placed. -/
theorem readQuad_withFetchWord (hw : w < 2 ^ nbits) :
    readQuad (s.withFetchWord nbits w).mem (s.withFetchWord nbits w).pc.toNat = BitVec.ofNat 32 w := by
  rw [State.withFetchWord_mem, State.withFetchWord_pc, readQuad_writeQuad, Nat.mod_eq_of_lt hw]

theorem step_withFetchWord {i : Instr} (hw : w < 2 ^ nbits)
    (hi : decodeWord (BitVec.ofNat 32 w) = .ok i) :
    step (s.withFetchWord nbits w) = exec i (s.withFetchWord nbits w).beginStep := by
  refine step_of_readQuad (fetchPlace_fits s.pc) ?_
  rwa [readQuad_withFetchWord s nbits w hw]
end

end Sys2Proof.Machine

/-- Settles O55: the image is written byte by byte at rising addresses. -/
theorem loadCopiesTheImage : Obligations.LoadCopiesTheImage := by
  refine fun c address bytes => ⟨hostLoad_of_overrun, fun hfit => ⟨_, hostLoad_of_fits hfit, ?image, ?frame, rfl⟩⟩
  case image => exact readByte_writeBytes_add bytes c.mem address
  case frame => exact readByte_writeBytes_other bytes c.mem address

/-- Settles O45: the base case of the invariant that `everyStepKeepsTheInvariant` hands on. -/
theorem resetMeetsTheInvariant : Obligations.ResetMeetsTheInvariant := stateInv_reset

/-- Settles O46: the fields as 70 R441 lists them, the registers and memory by their laws. -/
theorem resetState : Obligations.ResetState :=
  ⟨hostNew_memSize, State.reg_reset, rfl, rfl, rfl, rfl, rfl, rfl, rfl, rfl, rfl, rfl, rfl, rfl, rfl, rfl,
    fun a _ => readByte_reset a⟩

/-- Settles O56: within range the host's access is that of `State.reg` and `State.setReg`. -/
theorem hostAccessors : Obligations.HostAccessors := by
  refine ⟨fun n => hostNew_of_ne, fun c i v => ⟨fun hi => ?_, ?_⟩⟩
  · exact ⟨hostRegister_of_gt c hi, hostSetRegister_of_gt c v hi⟩
  · rintro x rfl
    exact ⟨hostRegister_val c x, _, hostSetRegister_val c v x, c.begin.reg_setReg_same x v,
      fun y hy => c.begin.reg_setReg_other x y v hy, rfl⟩

/-- Settles O57: the word placed stands where the next step fetches. -/
theorem withFetchWordRunsTheWord : Obligations.WithFetchWordRunsTheWord :=
  fun s w _ hw hi => ⟨step_withFetchWord s 32 w hw hi, withFetchWord_keepsMemOutside s 32 w,
    fetchPlace_of_fits, s.withFetchWord_frame 32 w⟩
end
